-- ==== Sys2Proof/Word.lean ====
section
/-! DEFINITION. The words of the block: one element (ELEMW = 8), one index register (IDXW = 8), one
command or response word (16 bits), and the receive status record (rules R7, R80, R88). -/

namespace Sys2Proof

/-- One element of either FIFO, `ELEMW` = 8 bits, unsigned (R7, R23, D7). -/
abbrev Byte := BitVec 8

/-- One index register, `IDXW` = 8 bits, unsigned (R7, R21, D6). -/
abbrev Index := BitVec 8

/-- A command word or a response word, 16 bits (R80, R84). -/
abbrev Word16 := BitVec 16

/-- The record `read_status_and_data` returns (R88): the data byte and the four receive error flags
overrun, framing, parity and sum, four independent inputs (R163, C3). -/
structure StatusWord where
  data : Byte
  oe : Bool
  fe : Bool
  pe : Bool
  sum : Bool
  deriving DecidableEq, Repr, Inhabited

end Sys2Proof
end

