-- ==== Sys2Proof/Config.lean ====
section
/-! DEFINITION. What an implementation fixes (rule R7's parameters, the record of R33) and the free values
the spec leaves open (rules R56, R190). -/

namespace Sys2Proof

/-- How an index register is incremented (R7, R100, R101, D9). -/
inductive IndexMode where
  | mask
  | modulo
  deriving DecidableEq, Repr

/-- `EMPTY_GET_POLICY` (R7, R111, D21): what a get on an empty FIFO does in the model. -/
inductive EmptyGetPolicy where
  | stale
  | fault
  deriving DecidableEq, Repr

/-- The environment behind the peripheral surface (D24): the unconstrained oracle of R190, or the
reference peripheral of R191. -/
inductive Environment where
  | oracle
  | reference
  deriving DecidableEq, Repr

/-- The configuration record, "fixed before construction and never changed after" (R7, R33). It stands in
State, where no step writes it, so that a statement about every state is about every configuration. -/
structure Cfg where
  capTx : Nat
  capRx : Nat
  modeTx : IndexMode
  modeRx : IndexMode
  priTx : Nat
  priRx : Nat
  baudDivisor : Nat
  emptyGet : EmptyGetPolicy
  env : Environment
  deriving DecidableEq, Repr

/-- `FRAME`'s data bits (R7, R181). -/
def Config.frameBits : Nat := 8

/-- `FRAME`'s stop bits (R7, R181). -/
def Config.frameStopBits : Nat := 1

/-- DESIGN CHOICE (log 6): the configuration of `State.reset`. The spec leaves every field but the policy's
default OPEN (R7); 16 is the capacity most vectors of spec/95 use, and their "Reset" names the reference
peripheral. Unsafe: a statement about `State.reset` alone is about this configuration only. -/
def Config.standard : Cfg :=
  { capTx := 16, capRx := 16, modeTx := .modulo, modeRx := .modulo, priTx := 0, priRx := 0,
    baudDivisor := 0, emptyGet := .stale, env := .reference }

/-- Free value (R56, D23, U10; log 4): what the n-th draw yields as the content of an unwritten slot. -/
opaque Config.freeByte : Nat → Byte

/-- Free value (R190 a, U12; log 4): the oracle's answer to `is_transmit_register_empty` at the n-th draw. -/
opaque Config.freeTxEmpty : Nat → Bool

/-- Free value (R190 a, U12; log 4): the oracle's answer to `read_status_and_data` at the n-th draw. -/
opaque Config.freeStatus : Nat → StatusWord

end Sys2Proof
end

