-- ==== Sys2Proof/Syntax.lean ====
section
/-! DEFINITION. The eleven operations of the block (rules R12, R82, R83), one constructor per row of
spec/opcode_table.json. -/

namespace Sys2Proof

/-- Which FIFO instance a container operation names (R23, R81): `tx` outbound (`sel` = 0), `rx` inbound
(`sel` = 1). -/
inductive Sel where
  | tx
  | rx
  deriving DecidableEq, Repr

/-- The operations (R12, R83). `f` is the `sel` operand, `v` and `b` the 8-bit `data` operand (R82). -/
inductive Instr where
  /-- FCLR, `clear()` (R104). -/
  | fclr (f : Sel)
  /-- FPUT, `put(value)` (R105). -/
  | fput (f : Sel) (v : Byte)
  /-- FGET, `get()` (R106). -/
  | fget (f : Sel)
  /-- FLEN, `length()` (R107). -/
  | flen (f : Sel)
  /-- FSIZ, `size()` (R108). -/
  | fsiz (f : Sel)
  /-- WRITE, `write(byte)` (R132). -/
  | write (b : Byte)
  /-- RESUME, `resume_if_stalled()` (R133). -/
  | resume
  /-- TXRDY, `on_transmit_ready()` (R161). -/
  | txrdy
  /-- RXRDY, `on_receive_ready()` (R162). -/
  | rxrdy
  /-- READ, `read()` (R134). -/
  | read
  /-- AVAIL, `available()` (R135). -/
  | avail
  deriving DecidableEq, Repr

end Sys2Proof
end

