-- ==== Sys2Proof/WellFormed.lean ====
section
/-! DEFINITION. What is well formed: a configuration (rules R7, R101, R244), a command word (rule R85), an
instruction, and who may issue which instruction (rules R89, R192, R216). -/

namespace Sys2Proof

/-- The capacities an index register can serve: `1 <= CAP_F <= 256` (R7, R21, R244). -/
def capacityOk (c : Nat) : Bool := decide (1 ≤ c) && decide (c ≤ 256)

/-- The capacities the mask form is right for (R101). -/
def isPowerOfTwo (c : Nat) : Bool := [1, 2, 4, 8, 16, 32, 64, 128, 256].contains c

/-- `INDEX_MODE_F = mask` only for a power of two (R101, R244). -/
def modeOk (m : IndexMode) (c : Nat) : Bool :=
  match m with
  | .mask => isPowerOfTwo c
  | .modulo => true

/-- A configuration the block can be built with: R244's first two constraints. Its last two
(`CAP_TX >= 8`, `CAP_RX >= 2`) are "admitted and behave as the rules say". -/
def Cfg.wellFormed (c : Cfg) : Bool :=
  capacityOk c.capTx && capacityOk c.capRx && modeOk c.modeTx c.capTx && modeOk c.modeRx c.capRx

/-- `CW[15:12]` is one of the eleven operation numbers (R83, R85). -/
def opAssigned (w : Word16) : Bool :=
  [0x0, 0x1, 0x2, 0x3, 0x4, 0x8, 0x9, 0xA, 0xB, 0xC, 0xD].contains (w.extractLsb' 12 4).toNat

/-- `CW[10:8]` is `000` (R81, R85). -/
def zeroFieldClear (w : Word16) : Bool := w.extractLsb' 8 3 == 0

/-- A port-class word (`CW[15]` = 1) has `sel` = 0 (R81, R85, D2). -/
def selClearOnPort (w : Word16) : Bool := !(w.getLsbD 15 && w.getLsbD 11)

/-- A word other than FPUT and WRITE has `data` = 0x00 (R81, R85). -/
def dataClearWhenUnused (w : Word16) : Bool :=
  (w.extractLsb' 12 4 == 0x1#4) || (w.extractLsb' 12 4 == 0x8#4) || (w.extractLsb' 0 8 == 0)

/-- A legal command word: none of R85's four grounds for an illegal word holds. -/
def wordWellFormed (w : Word16) : Bool :=
  opAssigned w && zeroFieldClear w && selClearOnPort w && dataClearWhenUnused w

/-- Every term of `Instr` is well formed: the operand types hold exactly the operand values of R82 (one bit of
`sel`, eight of `data`), so no check is left to make on an instruction itself. -/
def Instr.wellFormed (_ : Instr) : Bool := true

/-- Where a command is issued (R213). -/
inductive IssueContext where
  | foreground
  | txHandler
  | rxHandler
  deriving DecidableEq, Repr

/-- Who may issue which command (R89, R192): WRITE, READ and AVAIL from the foreground, RESUME from either
context, TXRDY and RXRDY only as the handlers' entry points, the container's commands by a test bench in the
foreground. The machine itself refuses only WRITE in handler context (R216); the rest is the application's duty
(D30) and a premise a claim may take. -/
def issueAllowed (c : IssueContext) (i : Instr) : Bool :=
  match i with
  | .fclr _ => c == .foreground
  | .fput _ _ => c == .foreground
  | .fget _ => c == .foreground
  | .flen _ => c == .foreground
  | .fsiz _ => c == .foreground
  | .write _ => c == .foreground
  | .resume => true
  | .txrdy => c == .txHandler
  | .rxrdy => c == .rxHandler
  | .read => c == .foreground
  | .avail => c == .foreground

end Sys2Proof
end

