-- ==== Sys2Proof/Decode.lean ====
section
/-! DEFINITION. The decoder of command words, by the opcode table and procedure of rules R81, R83, R85 and R90, and
after it the encoder. -/

namespace Sys2Proof

/-- The operation numbers of R83, by name. -/
inductive Op where
  | fclr | fput | fget | flen | fsiz | write | resume | txrdy | rxrdy | read | avail
  deriving DecidableEq, Repr

/-- One row of R83's table: a word `w` selects it when `w & mask = value`. -/
structure OpRow where
  op : Op
  mask : Word16
  value : Word16
  deriving DecidableEq, Repr

/-- Why a word is illegal (R85), by name. -/
inductive DecodeError where
  /-- `op` is 0x5, 0x6, 0x7, 0xE or 0xF. -/
  | reservedOp
  /-- `CW[10:8]` is not `000`. -/
  | zeroField
  /-- a port-class word with `CW[11]` = 1. -/
  | selOnPort
  /-- `CW[7:0]` is not 0x00 on an operation without a data operand. -/
  | dataNotZero
  deriving DecidableEq, Repr

/-- The opcode map, in table order (R83). -/
def opRows : List OpRow :=
  [ ⟨.fclr,   0xF7FF#16, 0x0000#16⟩,
    ⟨.fput,   0xF700#16, 0x1000#16⟩,
    ⟨.fget,   0xF7FF#16, 0x2000#16⟩,
    ⟨.flen,   0xF7FF#16, 0x3000#16⟩,
    ⟨.fsiz,   0xF7FF#16, 0x4000#16⟩,
    ⟨.write,  0xFF00#16, 0x8000#16⟩,
    ⟨.resume, 0xFFFF#16, 0x9000#16⟩,
    ⟨.txrdy,  0xFFFF#16, 0xA000#16⟩,
    ⟨.rxrdy,  0xFFFF#16, 0xB000#16⟩,
    ⟨.read,   0xFFFF#16, 0xC000#16⟩,
    ⟨.avail,  0xFFFF#16, 0xD000#16⟩ ]

/-- The row test of R83 and R90. -/
def OpRow.selects (r : OpRow) (w : Word16) : Bool := w &&& r.mask == r.value

/-- `sel` = `CW[11]`: 0 is TX, 1 is RX (R81). -/
def selOf (w : Word16) : Sel := if w.getLsbD 11 then .rx else .tx

/-- `data` = `CW[7:0]`, unsigned, unextended (R82). -/
def dataOf (w : Word16) : Byte := w.extractLsb' 0 8

/-- The instruction of a row, its operands taken "as the row's operands say" (R83, R90). -/
def Op.instr (o : Op) (w : Word16) : Instr :=
  match o with
  | .fclr => .fclr (selOf w)
  | .fput => .fput (selOf w) (dataOf w)
  | .fget => .fget (selOf w)
  | .flen => .flen (selOf w)
  | .fsiz => .fsiz (selOf w)
  | .write => .write (dataOf w)
  | .resume => .resume
  | .txrdy => .txrdy
  | .rxrdy => .rxrdy
  | .read => .read
  | .avail => .avail

/-- Which of R85's grounds an illegal word meets, in the order R85 lists them. -/
def rejectionOf (w : Word16) : DecodeError :=
  if !opAssigned w then .reservedOp
  else if !zeroFieldClear w then .zeroField
  else if !selClearOnPort w then .selOnPort
  else .dataNotZero

/-- Decoding (R90): the first row that selects the word gives the instruction; a word no row selects is illegal
(R85), rejected by name. -/
def decode (w : Word16) : Except DecodeError Instr :=
  match opRows.find? (fun r => r.selects w) with
  | some r => .ok (r.op.instr w)
  | none => .error (rejectionOf w)

/-- The operation number `CW[15:12]` (R83). -/
def opNumber (i : Instr) : BitVec 4 :=
  match i with
  | .fclr _ => 0x0#4
  | .fput _ _ => 0x1#4
  | .fget _ => 0x2#4
  | .flen _ => 0x3#4
  | .fsiz _ => 0x4#4
  | .write _ => 0x8#4
  | .resume => 0x9#4
  | .txrdy => 0xA#4
  | .rxrdy => 0xB#4
  | .read => 0xC#4
  | .avail => 0xD#4

/-- The `sel` bit (R81). -/
def selBit (f : Sel) : BitVec 1 :=
  match f with
  | .tx => 0#1
  | .rx => 1#1

/-- The `sel` field of an instruction, zero where it has no such operand (R81, R90). -/
def selField (i : Instr) : BitVec 1 :=
  match i with
  | .fclr f => selBit f
  | .fput f _ => selBit f
  | .fget f => selBit f
  | .flen f => selBit f
  | .fsiz f => selBit f
  | .write _ => 0#1
  | .resume => 0#1
  | .txrdy => 0#1
  | .rxrdy => 0#1
  | .read => 0#1
  | .avail => 0#1

/-- The `data` field of an instruction, zero where it has no such operand (R81, R90). -/
def dataField (i : Instr) : Byte :=
  match i with
  | .fclr _ => 0#8
  | .fput _ v => v
  | .fget _ => 0#8
  | .flen _ => 0#8
  | .fsiz _ => 0#8
  | .write b => b
  | .resume => 0#8
  | .txrdy => 0#8
  | .rxrdy => 0#8
  | .read => 0#8
  | .avail => 0#8

/-- Encoding (R81, R90): `op`, `sel`, `000` and `data`, from bit 15 down. -/
def encode (i : Instr) : Word16 := opNumber i ++ selField i ++ 0#3 ++ dataField i

/-- The host's decoding of a table row: every row is 16 bits (R86), so the whole instruction is one command word
with bit 0 its least significant bit (R52, R81). -/
def decodeTableWord (nbits w : Nat) : Option Instr :=
  if nbits ≤ 16 ∧ w < 65536 then
    match decode (BitVec.ofNat 16 w) with
    | .ok i => some i
    | .error _ => none
  else none

end Sys2Proof
end

