-- ==== Sys2Proof/Machine/State.lean ====
section
/-! DEFINITION. The whole state of the block, as plain data (rules R20 to R39), the reasons a step can stop, and the
state after reset (R37). -/

namespace Sys2Proof.Machine

/-- One slot array: the written slots as (slot, element) pairs, slots strictly rising. An unlisted slot is
*unwritten* and holds no value (R25, R50, R56; DEDUCED, log 16). -/
abbrev Memory := List Host.Cell

/-- One FIFO instance (R20): its two index registers, its storage, and the ghost true count (R35). -/
structure Fifo where
  get : Index
  put : Index
  store : Memory
  cnt : Nat
  deriving DecidableEq, Repr

/-- The phases of every operation (R27, R28, R104 to R106, R132 to R134, R161, R162). -/
inductive Phase where
  | idle
  | w1 | w2 | w3 | w4 | w5
  | s1 | s2 | s3 | s4 | s5 | s6 | s7
  | d1 | d2
  | p1 | p2
  | g1 | g2
  | c1 | c2
  | t1 | t2 | t3 | t4 | t5
  | x1 | x2 | x3 | x4
  deriving DecidableEq, Repr

/-- The phase register and temporaries of one running context (R27, R28): `pc`; `sel`, the latched FIFO operand (the
model's own, R61); `b`, the latched byte operand; `v`, an element read from a slot and not yet used; `ret`, the phase a
nested call returns to (`idle` when the operation itself returns). -/
structure Ctx where
  pc : Phase
  sel : Sel
  b : Byte
  v : Byte
  ret : Phase
  deriving DecidableEq, Repr

/-- The four contexts an operation's phases can run in: the foreground (R27), the two handlers (R28; a RESUME in handler
context runs there too, R133), and the call frame of any other command issued in handler context (log 5). -/
inductive Who where
  | fg
  | txi
  | rxi
  | call
  deriving DecidableEq, Repr

/-- The agents of R9. -/
inductive Agent where
  | fg
  | txi
  | rxi
  | per
  | boot
  deriving DecidableEq, Repr

/-- The nine calls of the peripheral-control surface with their arguments and answers (R180 to R189). -/
inductive SurfaceCall where
  | configureUart (bitsPerFrame stopBits baudDivisor : Nat)
  | enableTransmitInterrupt (priority : Nat)
  | enableReceiveInterrupt (priority : Nat)
  | writeDataRegister (byte : Byte)
  | readStatusAndData (answer : StatusWord)
  | isTransmitRegisterEmpty (answer : Bool)
  | acknowledgeTransmitInterrupt
  | acknowledgeReceiveInterrupt
  | clearReceiveErrorLatch
  deriving DecidableEq, Repr

/-- The entries of the event trace (R35, R38): surface calls, commands issued, values returned to a caller (as response
words, R84). -/
inductive Event where
  | called (a : Agent) (c : SurfaceCall)
  | issued (a : Agent) (i : Instr)
  | returned (a : Agent) (r : Word16)
  deriving DecidableEq, Repr

/-- The condition markers of R206, codes 1 to 8 in this order. -/
inductive Marker where
  | rxLineError (sw : StatusWord)
  | fifoOverflow (f : Sel)
  | txThrottle
  | emptyGet (f : Sel)
  | illegalCommand (w : Word16)
  | unwrittenSlot (f : Sel) (slot : Nat)
  | txDataOverrun (byte : Byte)
  | contextViolation (i : Instr)
  deriving DecidableEq, Repr

/-- The peripheral's state (R36, R191). -/
structure Per where
  txEmpty : Bool
  txIrq : Bool
  rxIrq : Bool
  rxWord : StatusWord
  errLatch : Bool
  ienTx : Bool
  ienRx : Bool
  txLog : List Byte
  rxFeed : List StatusWord
  deriving DecidableEq, Repr

/-- The oracle's coming answers (R190 a), an input: each call takes the head; when a list is empty the answer is a free
value of Config (log 4). -/
structure Oracle where
  txEmpty : List Bool
  status : List StatusWord
  deriving DecidableEq, Repr

/-- Where `BOOT` stands in `configure_uart` and the construction K1 to K5 (R230, R231). -/
inductive BootPhase where
  | configure
  | k1get | k1put
  | k2get | k2put
  | k3 | k4 | k5
  | done
  deriving DecidableEq, Repr

/-- The two interrupt sources (R207). -/
inductive IrqSource where
  | transmit
  | receive
  deriving DecidableEq, Repr

/-- The steps `PER` takes of its own accord: the reference peripheral's (R191), and the oracle's raising of either
condition (R190 b). -/
inductive PerStep where
  | txDone
  | rxArrive
  | raiseTransmit
  | raiseReceive
  deriving DecidableEq, Repr

/-- One entry of the schedule: which agent moves in a step, for how many atomic actions (R9, R57, R58; log 1). -/
inductive Turn where
  /-- The foreground goes on with its operation, or issues its next command, and makes up to `n` atomic actions. -/
  | foreground (n : Nat)
  /-- The active handler makes up to `n` atomic actions. -/
  | handler (n : Nat)
  /-- The interrupt controller starts the handler of `src` (R208, R210), which makes up to `n` atomic actions. -/
  | interrupt (src : IrqSource) (n : Nat)
  /-- The code of the active handler issues the command word `w` (R89, R216). -/
  | handlerCommand (w : Word16) (n : Nat)
  /-- `PER` takes a step of its own. -/
  | peripheral (p : PerStep)
  /-- `BOOT` makes up to `n` actions of the construction. -/
  | boot (n : Nat)
  deriving DecidableEq, Repr

/-- Why the machine stops with a fault. -/
inductive Fault where
  /-- Raised by the dequeue action (FGET's G2, READ's D2, RESUME's S5, TXRDY's T2) on a FIFO whose true count is 0 when
  the configuration says `EMPTY_GET_POLICY = fault` (R111, U1; log 11). Safe: the machine stops where a `stale` one goes on. -/
  | emptyGet (f : Sel)
  deriving DecidableEq, Repr

/-- Why a step has no meaning. -/
inductive Refusal where
  /-- An instruction the model gives no meaning yet, by its mnemonic. Safe. -/
  | notModelled (mnemonic : String)
  /-- Raised by `step` in a state whose configuration R101 and R244 refuse (log 13). Safe: no such block is built. -/
  | badConfiguration
  /-- Raised by the meaning of a command issued in a context that is still inside an operation: single-threaded code
  cannot do that, and `step` never does (log 5). Safe. -/
  | contextBusy
  deriving DecidableEq, Repr

/-- The state. INVENTORY.md, '## State', names the rule of each field. -/
structure State where
  cfg : Cfg
  tx : Fifo
  rx : Fifo
  stalled : Bool
  fg : Ctx
  txi : Ctx
  rxi : Ctx
  rxiSw : StatusWord
  call : Ctx
  boot : BootPhase
  per : Per
  oracle : Oracle
  draws : Nat
  clrOrder : List Bool
  markers : List Marker
  trace : List Event
  cmds : List Word16
  turns : List Turn
  grant : Nat
  deriving DecidableEq, Repr

/-- The outcome of one step or one meaning. -/
abbrev Result := Host.Outcome State Fault Refusal

/-- A FIFO after `clear()`, every slot unwritten (R37, D19). -/
def Fifo.reset : Fifo := { get := 0, put := 0, store := [], cnt := 0 }

/-- A context with no operation in progress. R37 leaves the temporaries unspecified ("each is written before it is
read"): DESIGN CHOICE zero (log 7), unsafe. -/
def Ctx.reset : Ctx := { pc := .idle, sel := .tx, b := 0, v := 0, ret := .idle }

/-- A status record of zeros: DESIGN CHOICE for `rxi.sw` and `per.rx_word`, which R37 leaves unspecified (log 7), unsafe. -/
def statusZero : StatusWord := { data := 0, oe := false, fe := false, pe := false, sum := false }

/-- The peripheral's start state: R37's last row gives it for the reference peripheral. Under the oracle R37 leaves the
peripheral's state unspecified, and these same values are the model's choice: DESIGN CHOICE (log 18), unsafe. -/
def Per.reset : Per :=
  { txEmpty := true, txIrq := false, rxIrq := false, rxWord := statusZero, errLatch := false, ienTx := true,
    ienRx := true, txLog := [], rxFeed := [] }

/-- The state after construction with configuration `c` (R37): the values of R37's table; the model's own fields at the
values of log 1, 2, 4, 5, 7 and 9. The peripheral stands at the reference start values for either environment: for
`env = oracle` R37 leaves them unspecified, DESIGN CHOICE (log 18), unsafe. -/
def State.resetWith (c : Cfg) : State :=
  { cfg := c, tx := Fifo.reset, rx := Fifo.reset, stalled := true, fg := Ctx.reset, txi := Ctx.reset,
    rxi := Ctx.reset, rxiSw := statusZero, call := Ctx.reset, boot := .done, per := Per.reset,
    oracle := { txEmpty := [], status := [] }, draws := 0, clrOrder := [], markers := [], trace := [], cmds := [],
    turns := [], grant := 0 }

/-- The machine right after reset (R37), in the configuration of log 6. -/
def State.reset : State := State.resetWith Config.standard

end Sys2Proof.Machine
end

