-- ==== Sys2Proof/Machine/Operands.lean ====
section
/-! DEFINITION. The operand forms: the FIFO a `sel` names with its capacity and index mode (R23, R81), the slot an index
register addresses (R51), the running contexts (R27, R28, R213), and the packed words (R84, R88). -/

namespace Sys2Proof

/-- `CAP_F` (R7, R23). -/
def Cfg.cap (c : Cfg) (f : Sel) : Nat :=
  match f with
  | .tx => c.capTx
  | .rx => c.capRx

/-- `INDEX_MODE_F` (R7, D9). -/
def Cfg.mode (c : Cfg) (f : Sel) : IndexMode :=
  match f with
  | .tx => c.modeTx
  | .rx => c.modeRx

/-- The packed status word `SW` (R88): `sum`, `pe`, `fe`, `oe` in bits 15 to 12, zeros, `data` in bits 7 to 0. -/
def StatusWord.pack (s : StatusWord) : Word16 :=
  BitVec.ofBool s.sum ++ BitVec.ofBool s.pe ++ BitVec.ofBool s.fe ++ BitVec.ofBool s.oe ++ 0#4 ++ s.data

/-- The status record of a packed word (R88). -/
def StatusWord.unpack (w : Word16) : StatusWord :=
  { data := w.extractLsb' 0 8, oe := w.getLsbD 12, fe := w.getLsbD 13, pe := w.getLsbD 14, sum := w.getLsbD 15 }

namespace Machine

/-- The response word of an element: `zext_16(v)` (R84). -/
def elementResponse (v : Byte) : Word16 := v.setWidth 16

/-- The response word of an integer result, unsigned `LENW` = 16 bits (R84, D8). -/
def integerResponse (n : Nat) : Word16 := BitVec.ofNat 16 n

/-- The FIFO instance a `sel` names (R23, R82). -/
def State.fifo (s : State) (f : Sel) : Fifo :=
  match f with
  | .tx => s.tx
  | .rx => s.rx

/-- The state with one FIFO instance replaced; the other is untouched (R50: the two are disjoint). -/
def State.setFifo (s : State) (f : Sel) (q : Fifo) : State :=
  match f with
  | .tx => { s with tx := q }
  | .rx => { s with rx := q }

/-- The capacity of a FIFO in this machine. -/
def State.cap (s : State) (f : Sel) : Nat := s.cfg.cap f

/-- The index mode of a FIFO in this machine. -/
def State.mode (s : State) (f : Sel) : IndexMode := s.cfg.mode f

/-- The slot FGET reads: the one indexed by `F.get`, no offset, no scale (R51). -/
def Fifo.getSlot (q : Fifo) : Nat := q.get.toNat

/-- The slot FPUT writes: the one indexed by `F.put` (R51). -/
def Fifo.putSlot (q : Fifo) : Nat := q.put.toNat

/-- The phase register and temporaries of a context (R27, R28). -/
def State.ctx (s : State) (w : Who) : Ctx :=
  match w with
  | .fg => s.fg
  | .txi => s.txi
  | .rxi => s.rxi
  | .call => s.call

/-- The state with one context replaced; no context touches another's temporaries (R210). -/
def State.setCtx (s : State) (w : Who) (c : Ctx) : State :=
  match w with
  | .fg => { s with fg := c }
  | .txi => { s with txi := c }
  | .rxi => { s with rxi := c }
  | .call => { s with call := c }

/-- A handler is active when its phase register is not `IDLE` (R28). -/
def State.handlerActive (s : State) : Bool := s.txi.pc != .idle || s.rxi.pc != .idle

/-- The handler that is active: `TXI` when its phase register is not `IDLE`, else `RXI` (at most one is, R28). -/
def State.activeHandler (s : State) : Who := if s.txi.pc != .idle then .txi else .rxi

/-- A handler's own phases (R28, R161, R162): between them its code may issue a command; inside a container operation or a
RESUME it may not. -/
def handlerPhase (p : Phase) : Bool :=
  match p with
  | .t1 | .t2 | .t3 | .t4 | .t5 | .x1 | .x2 | .x3 | .x4 => true
  | .idle | .w1 | .w2 | .w3 | .w4 | .w5 | .s1 | .s2 | .s3 | .s4 | .s5 | .s6 | .s7 | .d1 | .d2 | .p1 | .p2 | .g1 | .g2
  | .c1 | .c2 => false

/-- The active handler's code stands between two of its own phases and inside no command, so it can issue one (log 5). -/
def State.handlerFree (s : State) : Bool := handlerPhase (s.ctx s.activeHandler).pc && s.call.pc == .idle

/-- The context RESUME runs in: in handler context the handler's own phase register and temporaries, else the
foreground's (R133). -/
def State.resumer (s : State) : Who := if s.handlerActive then s.activeHandler else .fg

/-- RESUME can be issued: the foreground is at rest, or the active handler's code is between its own phases. -/
def State.canResume (s : State) : Bool := if s.handlerActive then s.handlerFree else s.fg.pc == .idle

/-- The context a command other than RESUME is issued in: the call frame while a handler is active, since the foreground
cannot step then (R58 a, R213, R216; log 5), else the foreground. -/
def State.issuer (s : State) : Who := if s.handlerActive then .call else .fg

/-- The agent a context's actions are recorded under (R9, R35): a command issued in handler context is the active
handler's. -/
def State.agentOf (s : State) (w : Who) : Agent :=
  match w with
  | .fg => .fg
  | .txi => .txi
  | .rxi => .rxi
  | .call => if s.txi.pc != .idle then .txi else .rxi

end Machine

end Sys2Proof
end

