-- ==== Sys2Proof/Machine/Flags.lean ====
section
/-! DEFINITION. Index arithmetic (R100 to R103), the watermark predicate (R131), the receive error predicate (R163) and
the transmit state machine's state (R31). The block has no other flag computation (R32, R114). -/

namespace Sys2Proof.Machine

/-- The wrap-around successor, general form (R100): the sum is computed without overflow. -/
def incModulo (c : Nat) (i : Index) : Index := if i.toNat + 1 ≥ c then 0 else i + 1

/-- The wrap-around successor, mask form (R101): `(index + 1) & (Capacity - 1)`. -/
def incMask (c : Nat) (i : Index) : Index := BitVec.ofNat 8 ((i.toNat + 1) &&& (c - 1))

/-- `inc_F(i)` in the configured form (R100 to R102). -/
def inc (m : IndexMode) (c : Nat) (i : Index) : Index :=
  match m with
  | .modulo => incModulo c i
  | .mask => incMask c i

/-- The derived occupancy `(put - get) mod C`, with the Euclidean remainder (R10, R22, R103). -/
def occOf (c : Nat) (q : Fifo) : Nat := (((q.put.toNat : Int) - (q.get.toNat : Int)) % (c : Int)).toNat

/-- `occ(F)` (R103). -/
def State.occ (s : State) (f : Sel) : Nat := occOf (s.cap f) (s.fifo f)

/-- The watermark predicate `8 * occ(TX) >= 7 * CAP_TX`, exact in the rationals (R131, D10). -/
def State.watermark (s : State) : Bool := decide (8 * s.occ .tx ≥ 7 * s.cap .tx)

/-- The receive error predicate (R163): any of the four flags. -/
def rxError (w : StatusWord) : Bool := w.oe || w.fe || w.pe || w.sum

/-- The two states of the transmit state machine (R31, R136). -/
inductive TransmitState where
  | active
  | stalledState
  deriving DecidableEq, Repr

/-- The transmit state machine's state is the flag, nothing else (R31). -/
def State.transmitState (s : State) : TransmitState := if s.stalled then .stalledState else .active

/-- A marker's code (R206). -/
def Marker.code (m : Marker) : Nat :=
  match m with
  | .rxLineError _ => 1
  | .fifoOverflow _ => 2
  | .txThrottle => 3
  | .emptyGet _ => 4
  | .illegalCommand _ => 5
  | .unwrittenSlot _ _ => 6
  | .txDataOverrun _ => 7
  | .contextViolation _ => 8

end Sys2Proof.Machine
end

