-- ==== Sys2Proof/Machine/Ops.lean ====
section
/-! DEFINITION. The named operations over the state: storage, markers and trace, the actions of the container
(R104 to R106), the nine surface calls (R180 to R191), and interrupt entry and return (R210, R211). -/

namespace Sys2Proof.Machine

/-- Sequencing: go on from a next state, stop where the first part stops. -/
def andThen (r : Result) (k : State → Result) : Result :=
  match r with
  | .next s => k s
  | .fault e => .fault e
  | .refused e => .refused e

/-! ### Storage (R50, R54, R56) -/

/-- The element of slot `a`, or none for an unwritten slot (R25, R56). -/
def memRead (m : Memory) (a : Nat) : Option Byte :=
  match m with
  | [] => none
  | (k, v) :: rest => if k = a then some v else memRead rest a

/-- One element written to slot `a`, the slots kept strictly rising. -/
def memWrite (m : Memory) (a : Nat) (v : Byte) : Memory :=
  match m with
  | [] => [(a, v)]
  | (k, w) :: rest =>
    if a < k then (a, v) :: (k, w) :: rest
    else if a = k then (a, v) :: rest
    else (k, w) :: memWrite rest a v

/-- The canonical form of a slot array: slots strictly rising (so no slot is listed twice). No entry can equal what an
unlisted slot reads as, which is no value. -/
abbrev Memory.wf (m : Memory) : Prop := (m.map Prod.fst).Pairwise (· < ·)

/-! ### Ghost state and inputs -/

/-- `raise` (R11, R206): record a marker in the sticky set; it never transfers control. -/
def State.mark (s : State) (m : Marker) : State :=
  if m ∈ s.markers then s else { s with markers := s.markers ++ [m] }

/-- Append one event to the trace (R35). -/
def State.emit (s : State) (e : Event) : State := { s with trace := s.trace ++ [e] }

/-- Write the flag (R29). -/
def State.setStalled (s : State) (v : Bool) : State := { s with stalled := v }

/-- Replace the peripheral's state. -/
def State.setPer (s : State) (p : Per) : State := { s with per := p }

/-- Count one draw of a free value. -/
def State.bumpDraws (s : State) : State := { s with draws := s.draws + 1 }

/-- Write `rxi.sw` (R28). -/
def State.setRxiSw (s : State) (w : StatusWord) : State := { s with rxiSw := w }

/-- Move `BOOT` to a phase. -/
def State.setBoot (s : State) (b : BootPhase) : State := { s with boot := b }

/-- Set a context's phase register: `pc <- target` (R11). -/
def State.goto (s : State) (w : Who) (p : Phase) : State := s.setCtx w { s.ctx w with pc := p }

/-- Return from a nested call, or end the operation when `ret` is `IDLE` (R27, R142). -/
def State.ret (s : State) (w : Who) : State := s.goto w (s.ctx w).ret

/-- Call of RESUME by WRITE (W2, W5; R132) or by a handler's code (R133): S1 next, then `r`. -/
def State.callResume (s : State) (w : Who) (r : Phase) : State :=
  s.setCtx w { s.ctx w with pc := .s1, ret := r }

/-- Call of FPUT on `f` with byte `b` (W4, X3; R132, R162): P1 next, then `r`. -/
def State.callPut (s : State) (w : Who) (f : Sel) (b : Byte) (r : Phase) : State :=
  s.setCtx w { s.ctx w with pc := .p1, sel := f, b := b, ret := r }

/-- Call of FGET on `f` (T2; R161): G1 next, then `r`. -/
def State.callGet (s : State) (w : Who) (f : Sel) (r : Phase) : State :=
  s.setCtx w { s.ctx w with pc := .g1, sel := f, ret := r }

/-! ### The container's atomic actions (R54, R104 to R106) -/

/-- FPUT's P1: `MemWrite(Slot(F, F.put), 1, v)` (R105). -/
def State.writeSlot (s : State) (f : Sel) (v : Byte) : State :=
  s.setFifo f { s.fifo f with store := memWrite (s.fifo f).store (s.fifo f).putSlot v }

/-- FPUT's P2: `F.put <- inc_F(F.put)` in one read-modify-write, with its ghost update (R35, R105). -/
def State.advancePut (s : State) (f : Sel) : State :=
  if (s.fifo f).cnt = s.cap f then
    (s.setFifo f { s.fifo f with put := inc (s.mode f) (s.cap f) (s.fifo f).put }).mark (.fifoOverflow f)
  else
    s.setFifo f { s.fifo f with put := inc (s.mode f) (s.cap f) (s.fifo f).put, cnt := (s.fifo f).cnt + 1 }

/-- What FGET's G1 reads: the element at `F.get`, or a free value for an unwritten slot (R56, R106). -/
def State.slotValue (s : State) (f : Sel) : Byte :=
  match memRead (s.fifo f).store (s.fifo f).getSlot with
  | some v => v
  | none => Config.freeByte s.draws

/-- FGET's G1 on context `w`: `v <- MemRead(Slot(F, F.get), 1)`; an unwritten slot records its marker (R56, R106). -/
def State.readSlot (s : State) (w : Who) (f : Sel) : State :=
  match memRead (s.fifo f).store (s.fifo f).getSlot with
  | some v => s.setCtx w { s.ctx w with v := v }
  | none =>
    ((s.setCtx w { s.ctx w with v := Config.freeByte s.draws }).bumpDraws).mark
      (.unwrittenSlot f (s.fifo f).getSlot)

/-- FGET's G2: `F.get <- inc_F(F.get)`, a read-modify-write of the current register, with its ghost update (R35, R106,
D12). On a FIFO whose true count is 0 the policy says: the marker and the same transition, or the fault (R111). -/
def State.advanceGet (s : State) (f : Sel) : Result :=
  if (s.fifo f).cnt = 0 then
    match s.cfg.emptyGet with
    | .stale =>
      .next ((s.setFifo f { s.fifo f with get := inc (s.mode f) (s.cap f) (s.fifo f).get }).mark (.emptyGet f))
    | .fault => .fault (.emptyGet f)
  else
    .next (s.setFifo f
      { s.fifo f with get := inc (s.mode f) (s.cap f) (s.fifo f).get, cnt := (s.fifo f).cnt - 1 })

/-- FCLR's C1: `F.get <- 0` (R104). -/
def State.clearGet (s : State) (f : Sel) : State := s.setFifo f { s.fifo f with get := 0 }

/-- FCLR's C2: `F.put <- 0`, ghost `F.cnt <- 0` (R104). -/
def State.clearPut (s : State) (f : Sel) : State := s.setFifo f { s.fifo f with put := 0, cnt := 0 }

/-! ### The peripheral surface (R180 to R191) -/

/-- Record a surface call (R35, R180). -/
def State.logCall (s : State) (a : Agent) (c : SurfaceCall) : State := s.emit (.called a c)

/-- `configure_uart(8, 1, BAUD_DIVISOR)` (R181): no state of the block changes. -/
def State.configureUart (s : State) (a : Agent) : State :=
  s.logCall a (.configureUart Config.frameBits Config.frameStopBits s.cfg.baudDivisor)

/-- `enable_transmit_interrupt(PRI_TX)` (R182, R191). -/
def State.enableTransmit (s : State) (a : Agent) : State :=
  (s.setPer { s.per with ienTx := true }).logCall a (.enableTransmitInterrupt s.cfg.priTx)

/-- `enable_receive_interrupt(PRI_RX)` (R183, R191). -/
def State.enableReceive (s : State) (a : Agent) : State :=
  (s.setPer { s.per with ienRx := true }).logCall a (.enableReceiveInterrupt s.cfg.priRx)

/-- `write_data_register(v)` (R184). The reference peripheral takes the byte when its register is empty and else ignores
the call and records TX_DATA_OVERRUN (R191, D34); of the oracle nothing is assumed. -/
def State.writeData (s : State) (a : Agent) (v : Byte) : State :=
  match s.cfg.env with
  | .oracle => s.logCall a (.writeDataRegister v)
  | .reference =>
    if s.per.txEmpty then
      (s.setPer { s.per with txLog := s.per.txLog ++ [v], txEmpty := false }).logCall a (.writeDataRegister v)
    else
      (s.mark (.txDataOverrun v)).logCall a (.writeDataRegister v)

/-- The answer `is_transmit_register_empty()` gives now (R186, R190 a, R191). -/
def State.txEmptyAnswer (s : State) : Bool :=
  match s.cfg.env with
  | .reference => s.per.txEmpty
  | .oracle =>
    match s.oracle.txEmpty with
    | b :: _ => b
    | [] => Config.freeTxEmpty s.draws

/-- The state after an `is_transmit_register_empty()` call: recorded with its answer, the oracle's answer used up. -/
def State.pollTxEmpty (s : State) (a : Agent) : State :=
  match s.cfg.env with
  | .reference => s.logCall a (.isTransmitRegisterEmpty s.txEmptyAnswer)
  | .oracle =>
    match s.oracle.txEmpty with
    | _ :: rest =>
      { s with oracle := { s.oracle with txEmpty := rest } }.logCall a (.isTransmitRegisterEmpty s.txEmptyAnswer)
    | [] => s.bumpDraws.logCall a (.isTransmitRegisterEmpty s.txEmptyAnswer)

/-- The answer `read_status_and_data()` gives now (R185, R190 a, R191). -/
def State.statusAnswer (s : State) : StatusWord :=
  match s.cfg.env with
  | .reference => s.per.rxWord
  | .oracle =>
    match s.oracle.status with
    | w :: _ => w
    | [] => Config.freeStatus s.draws

/-- The state after a `read_status_and_data()` call: recorded with its answer, which is latched in `rxi.sw` (R162 X1). -/
def State.readStatus (s : State) (a : Agent) : State :=
  match s.cfg.env with
  | .reference => (s.setRxiSw s.statusAnswer).logCall a (.readStatusAndData s.statusAnswer)
  | .oracle =>
    match s.oracle.status with
    | _ :: rest =>
      ({ s with oracle := { s.oracle with status := rest } }.setRxiSw s.statusAnswer).logCall a
        (.readStatusAndData s.statusAnswer)
    | [] => (s.bumpDraws.setRxiSw s.statusAnswer).logCall a (.readStatusAndData s.statusAnswer)

/-- `acknowledge_transmit_interrupt()` clears the transmit-ready condition (R187, R208). -/
def State.acknowledgeTransmit (s : State) (a : Agent) : State :=
  (s.setPer { s.per with txIrq := false }).logCall a .acknowledgeTransmitInterrupt

/-- `acknowledge_receive_interrupt()` clears the receive-ready condition (R188, R208). -/
def State.acknowledgeReceive (s : State) (a : Agent) : State :=
  (s.setPer { s.per with rxIrq := false }).logCall a .acknowledgeReceiveInterrupt

/-- `clear_receive_error_latch()` clears the error latch (R189, R191). -/
def State.clearErrorLatch (s : State) (a : Agent) : State :=
  (s.setPer { s.per with errLatch := false }).logCall a .clearReceiveErrorLatch

/-- One spontaneous step of `PER`. TX_DONE and RX_ARRIVE are the reference peripheral's, with R191's enabling conditions;
raising a condition at any time is the oracle's (R190 b). A step the environment does not have changes nothing
(log 12). -/
def State.perStep (s : State) (p : PerStep) : State :=
  match s.cfg.env, p with
  | .reference, .txDone =>
    if s.per.txEmpty then s else s.setPer { s.per with txEmpty := true, txIrq := true }
  | .reference, .rxArrive =>
    match s.per.rxFeed with
    | [] => s
    | w :: rest =>
      if s.per.rxIrq then s
      else s.setPer { s.per with rxWord := w, rxFeed := rest, rxIrq := true, errLatch := s.per.errLatch || rxError w }
  | .oracle, .raiseTransmit => s.setPer { s.per with txIrq := true }
  | .oracle, .raiseReceive => s.setPer { s.per with rxIrq := true }
  | .reference, .raiseTransmit => s
  | .reference, .raiseReceive => s
  | .oracle, .txDone => s
  | .oracle, .rxArrive => s

/-! ### Interrupt entry and return (R207 to R211) -/

/-- The handler of a source and its first phase (R160, R207). -/
def handlerOf (src : IrqSource) : Who :=
  match src with
  | .transmit => .txi
  | .receive => .rxi

/-- The first phase of a source's handler (R161, R162, R210). -/
def firstPhase (src : IrqSource) : Phase :=
  match src with
  | .transmit => .t1
  | .receive => .x1

/-- The condition of a source is pending (R36, R208). -/
def State.pending (s : State) (src : IrqSource) : Bool :=
  match src with
  | .transmit => s.per.txIrq
  | .receive => s.per.rxIrq

/-- The interrupt of a source is enabled (R36, R208). -/
def State.enabled (s : State) (src : IrqSource) : Bool :=
  match src with
  | .transmit => s.per.ienTx
  | .receive => s.per.ienRx

/-- Construction has come past the step that enables the source: no handler can start before construction's last two steps
(R230, R231). -/
def State.wired (s : State) (src : IrqSource) : Bool :=
  match src with
  | .transmit => s.boot == .done
  | .receive => s.boot == .k5 || s.boot == .done

/-- A handler may start: its condition is pending, its interrupt enabled, no handler active (R58 c, R208), construction past
the source's enable (R230). -/
def State.startable (s : State) (src : IrqSource) : Bool :=
  s.pending src && s.enabled src && s.wired src && !s.handlerActive

/-- Interrupt entry (R210), the one way a handler starts: `H.pc` from `IDLE` to its first phase. Nothing is saved and no
other context is touched. The trace records that the handler issued its command (R35, R160). -/
def State.enterHandler (s : State) (src : IrqSource) (i : Instr) : State :=
  (s.goto (handlerOf src) (firstPhase src)).emit (.issued (s.agentOf (handlerOf src)) i)

/-- Return from a handler (R211): `H.pc <- IDLE`; nothing is restored because nothing was saved. -/
def State.leaveHandler (s : State) (w : Who) : State := s.goto w .idle

end Sys2Proof.Machine
end

