-- ==== Sys2Proof/Machine/Phases.lean ====
section
/-! DEFINITION. One atomic action of the operation a context stands in (R54), by its phase (R104 to R106, R132 to R134,
R161, R162); a slice of such actions; and the issue of a command in the running context (R61, R89). -/

namespace Sys2Proof.Machine

/-- WRITE's W1: the watermark test, TX_THROTTLE when it holds (R132). -/
def actW1 (w : Who) (s : State) : State :=
  if s.watermark then (s.mark .txThrottle).goto w .w2 else s.goto w .w4

/-- WRITE's W3, the drain-wait: a hold until `occ(TX) == 0` (R132, R138). -/
def actW3 (w : Who) (s : State) : State :=
  if s.occ .tx = 0 then s.goto w .w4 else s.goto w .w3

/-- RESUME's S1: not stalled is a no-op (R133). -/
def actS1 (w : Who) (s : State) : State :=
  if s.stalled then s.goto w .s2 else s.ret w

/-- RESUME's S2: nothing to send is a no-op (R133). -/
def actS2 (w : Who) (s : State) : State :=
  if s.occ .tx > 0 then s.goto w .s3 else s.ret w

/-- RESUME's S3, the transmit-empty wait: one surface call, a hold until it answers true (R133, R138). -/
def actS3 (w : Who) (s : State) : State :=
  if s.txEmptyAnswer then (s.pollTxEmpty (s.agentOf w)).goto w .s4 else (s.pollTxEmpty (s.agentOf w)).goto w .s3

/-- A dequeue's second action on `f`, and then `k` (R106, R111). -/
def actAdvance (f : Sel) (k : State → State) (s : State) : Result :=
  andThen (s.advanceGet f) (fun t => .next (k t))

/-- FGET's return after G2: the operation itself hands the element to its caller (R84, R106); inside T2 it does not. -/
def finishGet (w : Who) (s : State) : State :=
  if (s.ctx w).ret = .idle then
    (s.emit (.returned (s.agentOf w) (elementResponse (s.ctx w).v))).ret w
  else s.ret w

/-- READ's return after D2 (R84, R134). -/
def finishRead (w : Who) (s : State) : State :=
  (s.emit (.returned (s.agentOf w) (elementResponse (s.ctx w).v))).goto w .idle

/-- Return of one of FCLR's two writes: the other follows, or the operation ends (R104). -/
def finishClear (w : Who) (s : State) : State :=
  s.setCtx w { s.ctx w with pc := (s.ctx w).ret, ret := .idle }

/-- TXRDY's T1: data or no data (R161). -/
def actT1 (w : Who) (s : State) : State :=
  if s.occ .tx > 0 then s.goto w .t2 else s.goto w .t4

/-- RXRDY's X1: the one status read, latched, with its branch (R162). -/
def actX1 (w : Who) (s : State) : State :=
  if rxError s.statusAnswer then (s.readStatus (s.agentOf w)).goto w .x2
  else (s.readStatus (s.agentOf w)).goto w .x3

/-- RXRDY's X2, the error arm: the latch is cleared once, the byte is dropped (R162, R202). -/
def actX2 (w : Who) (s : State) : State :=
  ((s.clearErrorLatch (s.agentOf w)).mark (.rxLineError s.rxiSw)).goto w .x4

/-- One atomic action of context `w`, by its phase (R54, R57). A context in `IDLE` has none. W2, W4, W5, T2 and X3 are
the calls of another operation: they move the phase register only (DEDUCED, log 14). -/
def act (w : Who) (s : State) : Result :=
  match (s.ctx w).pc with
  | .idle => .next s
  | .w1 => .next (actW1 w s)
  | .w2 => .next (s.callResume w .w3)
  | .w3 => .next (actW3 w s)
  | .w4 => .next (s.callPut w .tx (s.ctx w).b .w5)
  | .w5 => .next (s.callResume w .idle)
  | .s1 => .next (actS1 w s)
  | .s2 => .next (actS2 w s)
  | .s3 => .next (actS3 w s)
  | .s4 => .next ((s.readSlot w .tx).goto w .s5)
  | .s5 => actAdvance .tx (fun t => t.goto w .s6) s
  | .s6 => .next ((s.writeData (s.agentOf w) (s.ctx w).v).goto w .s7)
  | .s7 => .next ((s.setStalled false).ret w)
  | .d1 => .next ((s.readSlot w .rx).goto w .d2)
  | .d2 => actAdvance .rx (finishRead w) s
  | .p1 => .next ((s.writeSlot (s.ctx w).sel (s.ctx w).b).goto w .p2)
  | .p2 => .next ((s.advancePut (s.ctx w).sel).ret w)
  | .g1 => .next ((s.readSlot w (s.ctx w).sel).goto w .g2)
  | .g2 => actAdvance (s.ctx w).sel (finishGet w) s
  | .c1 => .next (finishClear w (s.clearGet (s.ctx w).sel))
  | .c2 => .next (finishClear w (s.clearPut (s.ctx w).sel))
  | .t1 => .next (actT1 w s)
  | .t2 => .next (s.callGet w .tx .t3)
  | .t3 => .next ((s.writeData (s.agentOf w) (s.ctx w).v).goto w .t5)
  | .t4 => .next ((s.setStalled true).goto w .t5)
  | .t5 => .next ((s.acknowledgeTransmit (s.agentOf w)).leaveHandler w)
  | .x1 => .next (actX1 w s)
  | .x2 => .next (actX2 w s)
  | .x3 => .next (s.callPut w .rx s.rxiSw.data .x4)
  | .x4 => .next ((s.acknowledgeReceive (s.agentOf w)).leaveHandler w)

/-- Up to `n` consecutive atomic actions of context `w`, ending when its phase register is at `stop`. Every interleaving
of R58 is a list of such slices; a slice of one action is R9's step (log 1). -/
def runTo (stop : Phase) (w : Who) (n : Nat) (s : State) : Result :=
  match n with
  | 0 => .next s
  | m + 1 => if (s.ctx w).pc = stop then .next s else andThen (act w s) (runTo stop w m)

/-- Up to `n` consecutive atomic actions of context `w`, ending when its operation ends. -/
def runCtx (w : Who) (n : Nat) (s : State) : Result := runTo .idle w n s

/-- Issue a command in the running context (R61, R89): its operands latched, its first phase set, the issue recorded,
and then as many of its atomic actions as the turn grants. A context runs one operation at a time. -/
def issue (i : Instr) (enter : Ctx → Ctx) (s : State) : Result :=
  if (s.ctx s.issuer).pc = .idle then
    runCtx s.issuer s.grant
      ((s.setCtx s.issuer (enter (s.ctx s.issuer))).emit (.issued (s.agentOf s.issuer) i))
  else .refused .contextBusy

/-- RESUME, issued and run in the running context's own phase register and temporaries (R133): it returns to the phase the
context stood in, `IDLE` in the foreground, and the slice ends there at the latest. -/
def startResume (s : State) : Result :=
  if s.canResume then
    runTo (s.ctx s.resumer).pc s.resumer s.grant
      ((s.callResume s.resumer (s.ctx s.resumer).pc).emit (.issued (s.agentOf s.resumer) .resume))
  else .refused .contextBusy

/-- A command whose whole meaning is one atomic action that answers a number and changes nothing (FLEN, FSIZ, AVAIL;
R107, R108, R135): issued and answered in the running context. -/
def answer (i : Instr) (r : Word16) (s : State) : Result :=
  if (s.ctx s.issuer).pc = .idle then
    .next ((s.emit (.issued (s.agentOf s.issuer) i)).emit (.returned (s.agentOf s.issuer) r))
  else .refused .contextBusy

/-- Start a handler and run it (R160, R210). No handler nests: while one is active, the entry waits and nothing changes
(R58 c, R211; log 5). -/
def startHandler (src : IrqSource) (i : Instr) (s : State) : Result :=
  if s.handlerActive then .next s
  else runCtx (handlerOf src) s.grant (s.enterHandler src i)

end Sys2Proof.Machine
end

