-- ==== Sys2Proof/Machine/Handlers.lean ====
section
/-! DEFINITION. The two interrupt entry points (R160 to R166): TXRDY and RXRDY. -/

namespace Sys2Proof.Machine

/-- TXRDY, `on_transmit_ready()`: the handler `TXI`, T1 to T5 (R161). -/
def execTxrdy (s : State) : Result := startHandler .transmit .txrdy s

/-- RXRDY, `on_receive_ready()`: the handler `RXI`, X1 to X4 (R162). -/
def execRxrdy (s : State) : Result := startHandler .receive .rxrdy s

end Sys2Proof.Machine
end

