-- ==== Sys2Proof/Machine/Port.lean ====
section
/-! DEFINITION. The port's foreground operations (R130 to R142): WRITE, RESUME, READ, AVAIL. -/

namespace Sys2Proof.Machine

/-- WRITE, `write(byte)`: the byte latched into `b`, then W1 to W5 (R132). Issued in handler context it is refused with
the marker CONTEXT_VIOLATION and changes nothing else (R89, R216, R241; log 10). -/
def execWrite (b : Byte) (s : State) : Result :=
  if s.handlerActive then .next (s.mark (.contextViolation (.write b)))
  else issue (.write b) (fun c => { c with pc := .w1, b := b }) s

/-- RESUME, `resume_if_stalled()`: S1 to S7, in either context (R133, R139). -/
def execResume (s : State) : Result := startResume s

/-- READ, `read()`: D1, D2, FGET on the inbound FIFO (R134). -/
def execRead (s : State) : Result :=
  issue .read (fun c => { c with pc := .d1 }) s

/-- AVAIL, `available()`: the inbound occupancy (R135). -/
def execAvail (s : State) : Result :=
  answer .avail (integerResponse (s.occ .rx)) s

end Sys2Proof.Machine
end

