-- ==== Sys2Proof/Machine/Ring.lean ====
section
/-! DEFINITION. The container's operations (R104 to R108): FCLR, FPUT, FGET, FLEN, FSIZ. -/

namespace Sys2Proof.Machine

/-- Whether the coming FCLR writes `F.put` first: the head of the input list, `F.get` first when it is empty (R104, D14;
log 9). -/
def State.putFirst (s : State) : Bool :=
  match s.clrOrder with
  | [] => false
  | b :: _ => b

/-- The state with one FCLR's order used up. -/
def State.popClrOrder (s : State) : State := { s with clrOrder := s.clrOrder.tail }

/-- FCLR's entry: C1 then C2, or C2 then C1 (R104). -/
def enterClear (f : Sel) (putFirst : Bool) (c : Ctx) : Ctx :=
  if putFirst then { c with pc := .c2, sel := f, ret := .c1 } else { c with pc := .c1, sel := f, ret := .c2 }

/-- FCLR, `clear()` (R104). -/
def execFclr (f : Sel) (s : State) : Result :=
  issue (.fclr f) (enterClear f s.putFirst) s.popClrOrder

/-- FPUT, `put(value)`: P1, P2 (R105, R109). -/
def execFput (f : Sel) (v : Byte) (s : State) : Result :=
  issue (.fput f v) (fun c => { c with pc := .p1, sel := f, b := v, ret := .idle }) s

/-- FGET, `get()`: G1, G2 (R106, R111). -/
def execFget (f : Sel) (s : State) : Result :=
  issue (.fget f) (fun c => { c with pc := .g1, sel := f, ret := .idle }) s

/-- FLEN, `length()`: the derived occupancy (R107, R110). -/
def execFlen (f : Sel) (s : State) : Result :=
  answer (.flen f) (integerResponse (s.occ f)) s

/-- FSIZ, `size()`: the capacity, constant (R108). -/
def execFsiz (f : Sel) (s : State) : Result :=
  answer (.fsiz f) (integerResponse (s.cap f)) s

end Sys2Proof.Machine
end

