-- ==== Sys2Proof/Machine/Dispatch.lean ====
section
/-! DEFINITION. The dispatch: one arm per instruction, each one direct call of its meaning. -/

namespace Sys2Proof.Machine

/-- The meaning of an issued command. -/
def exec (i : Instr) (s : State) : Host.Outcome State Fault Refusal :=
  match i with
  | .fclr f => Sys2Proof.Machine.execFclr f s
  | .fput f v => Sys2Proof.Machine.execFput f v s
  | .fget f => Sys2Proof.Machine.execFget f s
  | .flen f => Sys2Proof.Machine.execFlen f s
  | .fsiz f => Sys2Proof.Machine.execFsiz f s
  | .write b => Sys2Proof.Machine.execWrite b s
  | .resume => Sys2Proof.Machine.execResume s
  | .txrdy => Sys2Proof.Machine.execTxrdy s
  | .rxrdy => Sys2Proof.Machine.execRxrdy s
  | .read => Sys2Proof.Machine.execRead s
  | .avail => Sys2Proof.Machine.execAvail s

end Sys2Proof.Machine
end

