-- ==== Sys2Proof/Machine/Schedule.lean ====
section
/-! DEFINITION. Construction (R230, R231) and the scheduler: what one turn of the schedule does (R57, R58, R208, R209). -/

namespace Sys2Proof.Machine

/-- One action of `BOOT`: `configure_uart`, then K1 to K5 (R230, R231). After `done` there is none: the port is constructed
once (R232). -/
def bootAct (s : State) : State :=
  match s.boot with
  | .configure => (s.configureUart .boot).setBoot .k1get
  | .k1get => (s.clearGet .tx).setBoot .k1put
  | .k1put => (s.clearPut .tx).setBoot .k2get
  | .k2get => (s.clearGet .rx).setBoot .k2put
  | .k2put => (s.clearPut .rx).setBoot .k3
  | .k3 => (s.setStalled true).setBoot .k4
  | .k4 => (s.enableReceive .boot).setBoot .k5
  | .k5 => (s.enableTransmit .boot).setBoot .done
  | .done => s

/-- Up to `n` actions of `BOOT`. -/
def runBoot (n : Nat) (s : State) : State :=
  match n with
  | 0 => s
  | m + 1 => runBoot m (bootAct s)

/-- Issue a command word (R61, R90): a legal word is the instruction it decodes to; an illegal word is refused with the
marker ILLEGAL_COMMAND, and nothing else changes (R85, R216; log 10). -/
def issueWord (w : Word16) (s : State) : Result :=
  match decode w with
  | .ok i => exec i s
  | .error _ => .next (s.mark (.illegalCommand w))

/-- The command an interrupt source's entry point issues (R160). -/
def commandOf (src : IrqSource) : Instr :=
  match src with
  | .transmit => .txrdy
  | .receive => .rxrdy

/-- The state with the next schedule entry used up, and the number of actions it grants. -/
def State.takeTurn (s : State) (rest : List Turn) (n : Nat) : State := { s with turns := rest, grant := n }

/-- The state with the foreground's next command word used up. -/
def State.takeCommand (s : State) (rest : List Word16) : State := { s with cmds := rest }

/-- The foreground's turn: it goes on with the operation in progress, or issues its next command; it has no step while a
handler is active (R58 a), before construction is done (R231), or with no further command (R39). -/
def foregroundTurn (n : Nat) (s : State) : Result :=
  if s.handlerActive || s.boot != .done then .next s
  else if s.fg.pc = .idle then
    match s.cmds with
    | [] => .next s
    | w :: rest => issueWord w (s.takeCommand rest)
  else runCtx .fg n s

/-- The active handler's turn: a command in the call frame goes on first, then the handler's own phase register, which a
RESUME it issued uses too (R58 a, R133). -/
def handlerTurn (n : Nat) (s : State) : Result :=
  if !s.handlerActive then .next s
  else if s.call.pc = .idle then runCtx s.activeHandler n s
  else runCtx .call n s

/-- The interrupt controller's turn: a startable handler starts (R58 c, R208); which source comes first is the schedule's
(R209; log 15, log 17). -/
def interruptTurn (src : IrqSource) (s : State) : Result :=
  if s.startable src then exec (commandOf src) s else .next s

/-- A command issued by the active handler's code (R89, R216), when that code stands between two of its own phases. -/
def handlerCommandTurn (w : Word16) (s : State) : Result :=
  if s.handlerActive && s.handlerFree then issueWord w s else .next s

/-- `BOOT`'s turn: like the foreground it has no step while a handler is active (R58 a, R230). -/
def bootTurn (n : Nat) (s : State) : Result :=
  if s.handlerActive then .next s else .next (runBoot n s)

/-- One entry of the schedule. -/
def takeTurn (t : Turn) (rest : List Turn) (s : State) : Result :=
  match t with
  | .foreground n => foregroundTurn n (s.takeTurn rest n)
  | .handler n => handlerTurn n (s.takeTurn rest n)
  | .interrupt src n => interruptTurn src (s.takeTurn rest n)
  | .handlerCommand w n => handlerCommandTurn w (s.takeTurn rest n)
  | .peripheral p => .next ((s.takeTurn rest 0).perStep p)
  | .boot n => bootTurn n (s.takeTurn rest n)

/-- One step: the next entry of the schedule. With none listed no agent moves (log 1). A configuration R244 refuses has no
step. -/
def stepMachine (s : State) : Result :=
  if s.cfg.wellFormed then
    match s.turns with
    | [] => .next s
    | t :: rest => takeTurn t rest s
  else .refused .badConfiguration

/-- Enough atomic actions for the longest operation that does not wait: a throttled WRITE with both its RESUMEs and its
FPUT makes fewer than 32. -/
def longestOperation : Nat := 32

/-- `s` with the command word `w` as the foreground's next command and the foreground's turn next, every context idle and
construction done (log 2). -/
def State.placeCommand (s : State) (w : Word16) : State :=
  { s with
    cmds := w :: s.cmds
    turns := .foreground longestOperation :: s.turns
    fg := { s.fg with pc := .idle }
    txi := { s.txi with pc := .idle }
    rxi := { s.rxi with pc := .idle }
    call := { s.call with pc := .idle }
    boot := .done }

end Sys2Proof.Machine
end

