-- ==== Sys2Proof/Safety.lean ====
section
/-! DEFINITION. The terms claims are stated in: when the foreground is at rest, repeated polls (R138), the kinds of markers
(R206), the machine's
invariant (R21, R27, R28, R58), the watermark guarantee (R141), the count law (R35, R113), and a FIFO's contents
with sequences of container operations (R112). -/

namespace Sys2Proof.Machine

/-- The foreground is at rest and no handler is active: the next command of the foreground can be issued (R58, R61). -/
def State.ready (s : State) : Bool := !s.handlerActive && s.fg.pc == .idle

/-! ### The register polled again and again (R138, R186, R190 a) -/

/-- What poll `i` (counted from 0) of the transmit register answers, when only polls have come before it: the reference
peripheral's register (R191); the oracle's answers in order and then free values (R190 a, log 4). -/
def State.pollAnswer (s : State) (i : Nat) : Bool :=
  match s.cfg.env with
  | .reference => s.per.txEmpty
  | .oracle =>
    match s.oracle.txEmpty[i]? with
    | some b => b
    | none => Config.freeTxEmpty (s.draws + (i - s.oracle.txEmpty.length))

/-- The next `k` polls all answer false: the register is not empty for as long as they last. -/
abbrev State.pollsFalse (s : State) (k : Nat) : Prop := ∀ i, i < k → s.pollAnswer i = false

/-- The state with the answers of `k` polls used up, the polls themselves not recorded. -/
def State.polled (s : State) (k : Nat) : State :=
  match s.cfg.env with
  | .reference => s
  | .oracle =>
    { s with
      oracle := { s.oracle with txEmpty := s.oracle.txEmpty.drop k }
      draws := s.draws + (k - s.oracle.txEmpty.length) }

/-- The kinds of R206's last column. -/
inductive MarkerKind where
  | informational
  | violation
  | refusal
  | draw
  | environment
  deriving DecidableEq, Repr

/-- R206: how a model treats each marker. FIFO_OVERFLOW is defined data loss on RX and a contract violation on TX. -/
def Marker.kind (m : Marker) : MarkerKind :=
  match m with
  | .rxLineError _ => .informational
  | .fifoOverflow .rx => .informational
  | .fifoOverflow .tx => .violation
  | .txThrottle => .informational
  | .emptyGet _ => .violation
  | .illegalCommand _ => .refusal
  | .unwrittenSlot _ _ => .draw
  | .txDataOverrun _ => .environment
  | .contextViolation _ => .refusal

/-- A clean run so far: "no marker of kind violation, refusal or fault recorded" (R206). -/
def State.clean (s : State) : Bool :=
  s.markers.all (fun m => m.kind == .informational || m.kind == .draw)

/-! ### The invariant -/

/-- One FIFO in good order: both indices in `[0, C)` (R21), the slot array in canonical form, its slots in `[0, C)`. -/
abbrev fifoOk (c : Nat) (q : Fifo) : Prop :=
  q.get.toNat < c ∧ q.put.toNat < c ∧ q.store.wf ∧ ∀ e ∈ q.store, e.1 < c

/-- The phases a context that runs commands may stand in, with the return phase its operation left (R27, R142);
`mayWrite` says whether WRITE and RESUME can run there (in the foreground; in the call frame neither, R133, R216). -/
def commandCtxLegal (mayWrite : Bool) (c : Ctx) : Bool :=
  match c.pc with
  | .idle | .d1 | .d2 => true
  | .w1 | .w2 | .w3 | .w4 | .w5 => mayWrite
  | .s1 | .s2 | .s3 | .s4 | .s5 | .s6 | .s7 => mayWrite && (c.ret == .idle || c.ret == .w3)
  | .p1 | .p2 => c.ret == .idle || (mayWrite && c.ret == .w5 && c.sel == .tx)
  | .g1 | .g2 => c.ret == .idle
  | .c1 => c.ret == .c2 || c.ret == .idle
  | .c2 => c.ret == .c1 || c.ret == .idle
  | .t1 | .t2 | .t3 | .t4 | .t5 | .x1 | .x2 | .x3 | .x4 => false

/-- A phase of `TXI`'s own. -/
def txiOwn (p : Phase) : Bool := p == .t1 || p == .t2 || p == .t3 || p == .t4 || p == .t5

/-- A phase of `RXI`'s own. -/
def rxiOwn (p : Phase) : Bool := p == .x1 || p == .x2 || p == .x3 || p == .x4

/-- The phases of `TXI` (R28, R161): T1 to T5, FGET's inside T2, and a RESUME's, which returns to one of its own (R133). -/
def txiLegal (c : Ctx) : Bool :=
  match c.pc with
  | .idle | .t1 | .t2 | .t3 | .t4 | .t5 => true
  | .g1 | .g2 => c.sel == .tx && c.ret == .t3
  | .s1 | .s2 | .s3 | .s4 | .s5 | .s6 | .s7 => txiOwn c.ret
  | _ => false

/-- The phases of `RXI` (R28, R162): X1 to X4, FPUT's inside X3, and a RESUME's, which returns to one of its own (R133). -/
def rxiLegal (c : Ctx) : Bool :=
  match c.pc with
  | .idle | .x1 | .x2 | .x3 | .x4 => true
  | .p1 | .p2 => c.sel == .rx && c.ret == .x4
  | .s1 | .s2 | .s3 | .s4 | .s5 | .s6 | .s7 => rxiOwn c.ret
  | _ => false

/-- The machine's invariant: a buildable configuration (R244), both FIFOs in good order (R21), every context in a phase
of its own (R27, R28), at most one handler active (R28, R58 a), and a command of handler context only inside a handler. -/
abbrev State.Inv (s : State) : Prop :=
  s.cfg.wellFormed = true ∧ fifoOk (s.cap .tx) s.tx ∧ fifoOk (s.cap .rx) s.rx ∧
  commandCtxLegal true s.fg = true ∧ txiLegal s.txi = true ∧ rxiLegal s.rxi = true ∧
  commandCtxLegal false s.call = true ∧ (s.txi.pc = .idle ∨ s.rxi.pc = .idle) ∧
  (s.call.pc ≠ .idle → s.handlerActive = true)

/-! ### What the application may still issue -/

/-- The word decodes to no instruction that `p` holds of. -/
def wordAvoids (p : Instr → Bool) (w : Word16) : Bool :=
  match decode w with
  | .ok i => !p i
  | .error _ => true

/-- The turn issues no command word that decodes to an instruction `p` holds of. -/
def turnAvoids (p : Instr → Bool) (t : Turn) : Bool :=
  match t with
  | .handlerCommand w _ => wordAvoids p w
  | .foreground _ => true
  | .handler _ => true
  | .interrupt _ _ => true
  | .peripheral _ => true
  | .boot _ => true

/-- No command still to come, of the foreground or of handler code, is one that `p` holds of. -/
def State.neverIssues (p : Instr → Bool) (s : State) : Bool :=
  s.cmds.all (wordAvoids p) && s.turns.all (turnAvoids p)

/-- FPUT or FCLR on the outbound FIFO: what R141 takes as never issued ("WRITE is the only source of FPUT on TX"; FCLR is
used only at construction, R62). -/
def isTxFill (i : Instr) : Bool :=
  match i with
  | .fput .tx _ => true
  | .fclr .tx => true
  | _ => false

/-- FCLR on `f`. -/
def isClearOf (f : Sel) (i : Instr) : Bool :=
  match i with
  | .fclr g => g == f
  | _ => false

/-- The context is inside an FCLR of `f`. -/
def clearing (f : Sel) (c : Ctx) : Bool := (c.pc == .c1 || c.pc == .c2) && c.sel == f

/-- The context is inside an FPUT on `f`. -/
def putting (f : Sel) (c : Ctx) : Bool := (c.pc == .p1 || c.pc == .p2) && c.sel == f

/-! ### R141 and R35 -/

/-- The watermark guarantee's state (R141): capacity 8 or more, WRITE from the foreground the only source of FPUT on TX,
the true count at most `ceil(7 * CAP_TX / 8)` and shown exactly by the occupancy, strictly below the watermark from W4 to
P2, and no FIFO_OVERFLOW(TX) recorded. -/
abbrev State.TxGuard (s : State) : Prop :=
  s.Inv ∧ 8 ≤ s.cap .tx ∧ s.boot = .done ∧ s.neverIssues isTxFill = true ∧
  clearing .tx s.fg = false ∧ clearing .tx s.call = false ∧ putting .tx s.call = false ∧
  (putting .tx s.fg = true → s.fg.ret = .w5) ∧
  s.occ .tx = s.tx.cnt ∧ s.tx.cnt ≤ (7 * s.cap .tx + 7) / 8 ∧
  ((s.fg.pc = .w4 ∨ putting .tx s.fg = true) → 8 * s.tx.cnt < 7 * s.cap .tx) ∧
  Marker.fifoOverflow .tx ∉ s.markers

/-- The count law's state (R35): no FCLR of `f` in progress or to come, and the occupancy is the true count modulo the
capacity. -/
abbrev State.CountLaw (f : Sel) (s : State) : Prop :=
  s.Inv ∧ s.boot = .done ∧ s.neverIssues (isClearOf f) = true ∧
  clearing f s.fg = false ∧ clearing f s.call = false ∧ s.occ f = (s.fifo f).cnt % s.cap f

/-! ### A FIFO as a queue (R112) -/

/-- The unread elements in the order FGET meets them: `cnt` slots from `F.get` on, wrapping. -/
def State.contents (s : State) (f : Sel) : List (Option Byte) :=
  (List.range (s.fifo f).cnt).map (fun k => memRead (s.fifo f).store (((s.fifo f).get.toNat + k) % s.cap f))

/-- One container operation of a test bench on one FIFO. -/
inductive FifoOp where
  | put (v : Byte)
  | get
  deriving DecidableEq, Repr

/-- The command of an operation. -/
def FifoOp.instr (f : Sel) (o : FifoOp) : Instr :=
  match o with
  | .put v => .fput f v
  | .get => .fget f

/-- The operations issued one after the other, "run without interleaving" (R112). -/
def playFifo (f : Sel) (ops : List FifoOp) (s : State) : Result :=
  match ops with
  | [] => .next s
  | o :: rest => andThen (exec (o.instr f) s) (playFifo f rest)

/-- The operands of the FPUTs, in order. -/
def putsOf (ops : List FifoOp) : List Byte :=
  match ops with
  | [] => []
  | .put v :: rest => v :: putsOf rest
  | .get :: rest => putsOf rest

/-- The number of FGETs. -/
def getsOf (ops : List FifoOp) : Nat :=
  match ops with
  | [] => 0
  | .put _ :: rest => getsOf rest
  | .get :: rest => getsOf rest + 1

/-- The response words in a trace, in order (R38, R84). -/
def responses (tr : List Event) : List Word16 :=
  tr.filterMap (fun e =>
    match e with
    | .returned _ r => some r
    | .called _ _ => none
    | .issued _ _ => none)

/-- The bytes a trace shows written to the data register, in order (R38, R184). -/
def transmitted (tr : List Event) : List Byte :=
  tr.filterMap (fun e =>
    match e with
    | .called _ (.writeDataRegister v) => some v
    | _ => none)

end Sys2Proof.Machine
end

