-- ==== Sys2Proof/Certificates/Slice0/Obligations.lean ====
section
/-! DEFINITION. The statements for the provers. Each docstring names the rule of spec/ it rests on. -/

open Sys2Proof
open Sys2Proof.Machine

/-! ### Encoding (30_encoding.md) -/

/-- R90: decode after encode is the identity, for every instruction with every operand. -/
def Obligations.DecodeAfterEncodeIsIdentity : Prop :=
  ∀ i : Instr, i.wellFormed = true → decode (encode i) = .ok i

/-- R90: encode after decode is the identity on legal words. -/
def Obligations.EncodeAfterDecodeIsIdentity : Prop :=
  ∀ (w : Word16) (i : Instr), decode w = .ok i → encode i = w

/-- R85: the words the decoder accepts are exactly those none of R85's grounds holds of. -/
def Obligations.DecodableWordsAreTheLegalOnes : Prop :=
  ∀ w : Word16, (∃ i, decode w = .ok i) ↔ wordWellFormed w = true

/-- R90: the rows are disjoint, so at most one matches a word. -/
def Obligations.OpcodeRowsAreDisjoint : Prop :=
  ∀ (w : Word16) (r q : OpRow), r ∈ opRows → q ∈ opRows → r.selects w = true → q.selects w = true → r = q

/-- spec/95 section 2.6: words written out from the encoding decode to the commands they stand for. -/
def Obligations.SpecWordsDecode : Prop :=
  decode 0x0800#16 = .ok (.fclr .rx) ∧ decode 0x187A#16 = .ok (.fput .rx 0x7A#8) ∧
  decode 0x2800#16 = .ok (.fget .rx) ∧ decode 0x8041#16 = .ok (.write 0x41#8) ∧
  decode 0xA000#16 = .ok .txrdy ∧ decode 0x8841#16 = .error .selOnPort ∧ decode 0x0400#16 = .error .zeroField

/-- R88: the packed status word holds the record: data in bits 7:0, zeros in 11:8, the flags in bits 12 to 15; unpacking
gives the record back. -/
def Obligations.StatusWordPacksTheRecord : Prop :=
  ∀ r : StatusWord, StatusWord.unpack r.pack = r ∧ r.pack.extractLsb' 0 8 = r.data ∧ r.pack.extractLsb' 8 4 = 0 ∧
    r.pack.getLsbD 12 = r.oe ∧ r.pack.getLsbD 13 = r.fe ∧ r.pack.getLsbD 14 = r.pe ∧ r.pack.getLsbD 15 = r.sum

/-! ### The step (20_memory.md, 60_exceptions.md; log 1, log 2) -/

/-- A step of the foreground at rest whose next command word decodes to `i` is `exec i`, after the schedule entry and the
command word are taken (log 1, log 2; R61). -/
def Obligations.StepRunsTheDecodedCommand : Prop :=
  ∀ (s : State) (n : Nat) (rest : List Turn) (w : Word16) (cs : List Word16) (i : Instr),
    s.cfg.wellFormed = true → s.ready = true → s.boot = .done → s.turns = .foreground n :: rest →
    s.cmds = w :: cs → decode w = .ok i → i.wellFormed = true →
    step s = exec i { s with turns := rest, grant := n, cmds := cs }

/-- R85: an illegal word is refused: the marker ILLEGAL_COMMAND is recorded and nothing else changes but that the word and
the schedule entry are used up (log 10). -/
def Obligations.IllegalWordOnlyRecordsItsMarker : Prop :=
  ∀ (s : State) (n : Nat) (rest : List Turn) (w : Word16) (cs : List Word16),
    s.cfg.wellFormed = true → s.ready = true → s.boot = .done → s.turns = .foreground n :: rest →
    s.cmds = w :: cs → wordWellFormed w = false →
    step s = .next { s with
      turns := rest, grant := n, cmds := cs
      markers := if Marker.illegalCommand w ∈ s.markers then s.markers else s.markers ++ [.illegalCommand w] }

/-- R208, R58 c, R230: an interrupt's turn starts its handler's command exactly when its condition is pending, its interrupt
enabled, construction past its enable and no handler active; else only the schedule entry is used up. That the interrupt's
turn makes this check, and not the command TXRDY or RXRDY itself, is the model's choice (log 17). -/
def Obligations.InterruptTurnStartsOnlyAStartableHandler : Prop :=
  ∀ (s : State) (src : IrqSource) (n : Nat) (rest : List Turn),
    s.cfg.wellFormed = true → s.turns = .interrupt src n :: rest →
    step s =
      (if (match src with
          | .transmit => s.per.txIrq && s.per.ienTx && s.boot == .done
          | .receive => s.per.rxIrq && s.per.ienRx && (s.boot == .k5 || s.boot == .done)) = true ∧
          s.txi.pc = .idle ∧ s.rxi.pc = .idle
        then exec (match src with | .transmit => .txrdy | .receive => .rxrdy) { s with turns := rest, grant := n }
        else .next { s with turns := rest, grant := n })

/-- R210: interrupt entry alone (no action granted) sets `H.pc` from IDLE to the handler's first phase, records the issue,
and touches nothing else. -/
def Obligations.InterruptEntrySetsOnlyTheHandlersPhase : Prop :=
  ∀ s : State, s.txi.pc = .idle → s.rxi.pc = .idle → s.grant = 0 →
    exec .txrdy s = .next { s with txi := { s.txi with pc := .t1 }, trace := s.trace ++ [.issued .txi .txrdy] } ∧
    exec .rxrdy s = .next { s with rxi := { s.rxi with pc := .x1 }, trace := s.trace ++ [.issued .rxi .rxrdy] }

/-- R58 a: while a handler is active neither the foreground nor the other handler nor BOOT has a step: such a turn uses up
its schedule entry and nothing else. R211: handlers do not nest: an entry point met while a handler is active changes
nothing. -/
def Obligations.NothingButTheHandlerStepsWhileOneIsActive : Prop :=
  ∀ s : State, s.handlerActive = true →
    (exec .txrdy s = .next s ∧ exec .rxrdy s = .next s) ∧
    ∀ (turn : Turn) (n : Nat) (rest : List Turn), s.cfg.wellFormed = true → s.turns = turn :: rest →
      (turn = .foreground n ∨ turn = .boot n ∨ (∃ src, turn = .interrupt src n)) →
      step s = .next { s with turns := rest, grant := n }

/-- R54, R57: a slice of `m + n` atomic actions, to whatever phase it may go, is a slice of `m` and then one of `n`, so every
slice is a sequence of single actions and another agent can come between any two of them (log 1). -/
def Obligations.SliceIsASequenceOfActions : Prop :=
  ∀ (stop : Phase) (w : Who) (m n : Nat) (s : State),
    runTo stop w (m + n) s = andThen (runTo stop w m s) (runTo stop w n)

/-- R210: a step of a handler, of the interrupt controller, of handler code, of PER or of BOOT leaves the foreground's phase
register and temporaries as they are. -/
def Obligations.OnlyTheForegroundMovesItsContext : Prop :=
  ∀ (s t : State) (turn : Turn) (rest : List Turn), s.turns = turn :: rest → (∀ n, turn ≠ .foreground n) →
    step s = .next t → t.fg = s.fg

/-- R200: no operation raises an error to its caller: with the default policy a step of a buildable machine always answers a
next state. R111, U1: the only fault is the empty get, and only with `EMPTY_GET_POLICY = fault`. -/
def Obligations.StepAlwaysGoesOn : Prop :=
  ∀ s : State, s.cfg.wellFormed = true →
    (s.cfg.emptyGet = .stale → ∃ t, step s = .next t) ∧
    (s.cfg.emptyGet = .fault → (∃ t, step s = .next t) ∨ ∃ f, step s = .fault (.emptyGet f))

/-- R244, R101: a capacity outside 1..256, or the mask form on a capacity that is no power of two, is refused, and no other
configuration is. -/
def Obligations.BadConfigurationIsRefused : Prop :=
  ∀ s : State,
    (step s = .refused .badConfiguration ↔
      ¬ ((1 ≤ s.cfg.capTx ∧ s.cfg.capTx ≤ 256) ∧ (1 ≤ s.cfg.capRx ∧ s.cfg.capRx ≤ 256) ∧
         (s.cfg.modeTx = .mask → ∃ k, s.cfg.capTx = 2 ^ k) ∧ (s.cfg.modeRx = .mask → ∃ k, s.cfg.capRx = 2 ^ k)))

/-! ### Invariants and reset (10_state.md, 70_reset_and_hazards.md) -/

/-- R37: the state after construction, for every configuration: indices 0, every slot unwritten, the flag true, every phase
register IDLE, both counts 0, no marker, empty trace; both occupancies are 0; both interrupts enabled, as construction leaves
them (R230). The reference peripheral is in its start state: its register empty, no condition pending, the latch false, nothing
sent. Of the peripheral under the oracle R37 gives no start values, and none is stated here (log 18). -/
def Obligations.ResetLeavesTheStatedValues : Prop :=
  ∀ c : Cfg,
    let s := State.resetWith c
    s.cfg = c ∧ s.tx = ⟨0, 0, [], 0⟩ ∧ s.rx = ⟨0, 0, [], 0⟩ ∧ s.stalled = true ∧
    s.fg.pc = .idle ∧ s.txi.pc = .idle ∧ s.rxi.pc = .idle ∧ s.markers = [] ∧ s.trace = [] ∧
    s.per.ienTx = true ∧ s.per.ienRx = true ∧ s.occ .tx = 0 ∧ s.occ .rx = 0 ∧
    (c.env = .reference → s.per.txEmpty = true ∧ s.per.txIrq = false ∧ s.per.rxIrq = false ∧ s.per.errLatch = false ∧
      s.per.txLog = [])

/-- Reset, in every buildable configuration, meets the invariant; with CAP_TX 8 or more it meets R141's premises; and it
meets the count law of both FIFOs. -/
def Obligations.ResetMeetsTheInvariants : Prop :=
  ∀ c : Cfg, c.wellFormed = true →
    (State.resetWith c).Inv ∧ (8 ≤ c.capTx → (State.resetWith c).TxGuard) ∧ ∀ f, (State.resetWith c).CountLaw f

/-- R21, R28, R58: every step from a state that meets the invariant gives one that meets it: both indices of both FIFOs in
`[0, C)`, the slot arrays canonical and in range, every context in a phase of its own, at most one handler active. -/
def Obligations.StepKeepsTheInvariant : Prop :=
  ∀ s t : State, s.Inv → step s = .next t → t.Inv

/-- R33: the configuration is fixed; no step changes it. R232: there is no second reset: once construction is done it stays
done. -/
def Obligations.ConfigurationAndConstructionAreFixed : Prop :=
  ∀ s t : State, step s = .next t → t.cfg = s.cfg ∧ (s.boot = .done → t.boot = .done)

/-- R206, R35: no step removes a marker, and the trace only grows at its end. -/
def Obligations.MarkersAndTraceOnlyGrow : Prop :=
  ∀ s t : State, step s = .next t → (∀ m ∈ s.markers, m ∈ t.markers) ∧ s.trace <+: t.trace

/-- R230: construction K1 to K5, whatever the state before: both FIFOs' indices 0 and storage untouched, the flag true,
receive then transmit enabled by BOOT, nothing else changed. -/
def Obligations.ConstructionSequence : Prop :=
  ∀ (s : State) (rest : List Turn), s.cfg.wellFormed = true → s.boot = .k1get → s.handlerActive = false →
    s.turns = .boot 7 :: rest →
    step s = .next { s with
      tx := { s.tx with get := 0, put := 0, cnt := 0 }
      rx := { s.rx with get := 0, put := 0, cnt := 0 }
      stalled := true
      per := { s.per with ienRx := true, ienTx := true }
      boot := .done
      trace := s.trace ++ [.called .boot (.enableReceiveInterrupt s.cfg.priRx),
        .called .boot (.enableTransmitInterrupt s.cfg.priTx)]
      turns := rest
      grant := 7 }

/-- R29, R62, R230: an action of a running context changes the flag only at RESUME's S7, to false, and at TXRDY's T4, to
true; an action of BOOT changes it only at K3, to true; a step of PER never changes it. -/
def Obligations.FlagIsWrittenOnlyAtS7AndT4 : Prop :=
  (∀ (w : Who) (s t : State), act w s = .next t → t.stalled ≠ s.stalled →
    ((s.ctx w).pc = .s7 ∧ t.stalled = false) ∨ ((s.ctx w).pc = .t4 ∧ t.stalled = true)) ∧
  (∀ s : State, (bootAct s).stalled ≠ s.stalled → s.boot = .k3 ∧ (bootAct s).stalled = true) ∧
  ∀ (s : State) (p : PerStep), (s.perStep p).stalled = s.stalled

/-! ### Index arithmetic (40_ringbuffer.md) -/

/-- R100, R101: in either form the successor of an index in range is `(i + 1) mod C`. -/
def Obligations.SuccessorIsModuloCapacity : Prop :=
  ∀ (m : IndexMode) (c : Nat) (i : Index), capacityOk c = true → modeOk m c = true → i.toNat < c →
    (inc m c i).toNat = (i.toNat + 1) % c

/-- R102: for a power of two the two forms agree, and both are `(i + 1) mod C`. -/
def Obligations.MaskAndModuloFormsAgree : Prop :=
  ∀ (k : Nat) (i : Index), k ≤ 8 → i.toNat < 2 ^ k →
    incMask (2 ^ k) i = incModulo (2 ^ k) i ∧ (incMask (2 ^ k) i).toNat = (i.toNat + 1) % 2 ^ k

/-- R103: the occupancy of indices in range is `put - get`, or `put + C - get` when put is below get; it is below C, and 0
exactly when the indices are equal; for a power of two it is the nine-bit difference masked by C - 1. -/
def Obligations.OccupancyIsTheIndexDifference : Prop :=
  ∀ (c : Nat) (q : Fifo), q.get.toNat < c → q.put.toNat < c →
    occOf c q = (if q.put.toNat ≥ q.get.toNat then q.put.toNat - q.get.toNat else q.put.toNat + c - q.get.toNat) ∧
    occOf c q < c ∧ (occOf c q = 0 ↔ q.put = q.get) ∧
    (∀ k, k ≤ 8 → c = 2 ^ k →
      occOf c q = ((q.put.setWidth 9 - q.get.setWidth 9) &&& BitVec.ofNat 9 (c - 1)).toNat)

/-- R131: the watermark is `8 * occ(TX) >= 7 * CAP_TX`, exactly; it holds exactly from `ceil(7 * CAP_TX / 8)` on, and never
for a capacity below 8. -/
def Obligations.WatermarkThreshold : Prop :=
  ∀ s : State, s.Inv →
    (s.watermark = true ↔ 8 * s.occ .tx ≥ 7 * s.cap .tx) ∧
    (s.watermark = true ↔ (7 * s.cap .tx + 7) / 8 ≤ s.occ .tx) ∧ (s.cap .tx < 8 → s.watermark = false)

/-! ### The container (40_ringbuffer.md) -/

/-- R104: FCLR runs to its end from the foreground in either order of its two writes: both indices and the true count 0,
storage untouched, the occupancy 0 whatever it was; nothing else changes but the context, the issue's record and the order
used up. -/
def Obligations.FclrZeroesBothIndices : Prop :=
  ∀ (s : State) (f : Sel), s.ready = true → 2 ≤ s.grant →
    ∃ t, exec (.fclr f) s = .next t ∧ t.occ f = 0 ∧
      t = { s.setFifo f { s.fifo f with get := 0, put := 0, cnt := 0 } with
        fg := { s.fg with pc := .idle, sel := f, ret := .idle }
        clrOrder := s.clrOrder.tail
        trace := s.trace ++ [.issued .fg (.fclr f)] }

/-- R105: FPUT stores the value in the slot at put and advances put; `get` is not touched. The true count grows, or, with C
unread elements, stays and FIFO_OVERFLOW(F) is recorded. -/
def Obligations.FputStoresAndAdvances : Prop :=
  ∀ (s : State) (f : Sel) (v : Byte), s.ready = true → 2 ≤ s.grant →
    exec (.fput f v) s = .next
      { s.setFifo f
          { get := (s.fifo f).get
            put := inc (s.mode f) (s.cap f) (s.fifo f).put
            store := memWrite (s.fifo f).store (s.fifo f).put.toNat v
            cnt := if (s.fifo f).cnt = s.cap f then s.cap f else (s.fifo f).cnt + 1 } with
        fg := { s.fg with pc := .idle, sel := f, b := v, ret := .idle }
        markers :=
          if (s.fifo f).cnt = s.cap f ∧ Marker.fifoOverflow f ∉ s.markers
          then s.markers ++ [.fifoOverflow f] else s.markers
        trace := s.trace ++ [.issued .fg (.fput f v)] }

/-- R106: FGET on a written slot of a FIFO with unread elements returns the slot's element, zero-extended, advances get and
takes one from the true count; `put` and storage are not touched. -/
def Obligations.FgetReturnsAndAdvances : Prop :=
  ∀ (s : State) (f : Sel) (v : Byte), s.ready = true → 2 ≤ s.grant → (s.fifo f).cnt ≠ 0 →
    memRead (s.fifo f).store (s.fifo f).get.toNat = some v →
    exec (.fget f) s = .next
      { s.setFifo f { s.fifo f with get := inc (s.mode f) (s.cap f) (s.fifo f).get, cnt := (s.fifo f).cnt - 1 } with
        fg := { s.fg with pc := .idle, sel := f, v := v, ret := .idle }
        trace := s.trace ++ [.issued .fg (.fget f), .returned .fg (v.setWidth 16)] }

/-- R111, policy `stale`: FGET and READ on a FIFO with true count 0, whatever its indices, make the ordinary transition on the
slot's old content and record EMPTY_GET(F), and the count stays 0. With get in range the occupancy goes down by one modulo C:
from equal indices 0 to C - 1, and after that one empty get more takes one more. The same dequeue inside RESUME and TXRDY
stands in `ResumeKicks`, `ResumeKicksInHandlerContext` and `TxrdySendsOneByte`. -/
def Obligations.EmptyGetReturnsTheStaleElement : Prop :=
  ∀ (s : State) (f : Sel) (v : Byte), s.ready = true → 2 ≤ s.grant → s.cfg.emptyGet = .stale → s.cfg.wellFormed = true →
    (s.fifo f).cnt = 0 → memRead (s.fifo f).store (s.fifo f).get.toNat = some v →
    ∃ t, exec (.fget f) s = .next t ∧
      t.fifo f = { s.fifo f with get := inc (s.mode f) (s.cap f) (s.fifo f).get } ∧
      Marker.emptyGet f ∈ t.markers ∧
      ((s.fifo f).get.toNat < s.cap f → t.occ f = (s.occ f + s.cap f - 1) % s.cap f ∧
        ((s.fifo f).put = (s.fifo f).get → s.occ f = 0 ∧ t.occ f = s.cap f - 1)) ∧
      t.trace = s.trace ++ [.issued .fg (.fget f), .returned .fg (v.setWidth 16)] ∧
      (f = .rx → ∃ u, exec .read s = .next u ∧ u.rx = t.rx ∧ u.markers = t.markers ∧
        u.trace = s.trace ++ [.issued .fg .read, .returned .fg (v.setWidth 16)])

/-- R111, policy `fault`: FGET, READ and a dequeue of RESUME (in either context) or TXRDY on a FIFO with true count 0 end in
the fault. -/
def Obligations.EmptyGetFaultsUnderTheFaultPolicy : Prop :=
  ∀ s : State, s.cfg.emptyGet = .fault →
    (∀ f, s.ready = true → 2 ≤ s.grant → (s.fifo f).cnt = 0 → exec (.fget f) s = .fault (.emptyGet f)) ∧
    (s.ready = true → 2 ≤ s.grant → s.rx.cnt = 0 → exec .read s = .fault (.emptyGet .rx)) ∧
    (s.handlerActive = false → 4 ≤ s.grant → s.tx.cnt = 0 → 0 < s.occ .tx →
      exec .txrdy s = .fault (.emptyGet .tx)) ∧
    (s.canResume = true → 5 ≤ s.grant → s.tx.cnt = 0 → 0 < s.occ .tx → s.stalled = true → s.txEmptyAnswer = true →
      exec .resume s = .fault (.emptyGet .tx))

/-- R56: a get on a slot no FPUT has stored into takes a free value (log 4), records UNWRITTEN_SLOT(F, i), and advances get
like any other: FGET and READ return the value, TXRDY and RESUME send it. RESUME's poll may have used up a draw before. -/
def Obligations.UnwrittenSlotReadsAsAFreeValue : Prop :=
  ∀ (s : State) (f : Sel), s.ready = true → 2 ≤ s.grant → s.cfg.emptyGet = .stale →
    memRead (s.fifo f).store (s.fifo f).get.toNat = none →
    (∃ t, exec (.fget f) s = .next t ∧ t.draws = s.draws + 1 ∧
      (t.fifo f).get = inc (s.mode f) (s.cap f) (s.fifo f).get ∧ (t.fifo f).put = (s.fifo f).put ∧
      (t.fifo f).store = (s.fifo f).store ∧ Marker.unwrittenSlot f (s.fifo f).get.toNat ∈ t.markers ∧
      t.trace = s.trace ++
        [.issued .fg (.fget f), .returned .fg ((Config.freeByte s.draws).setWidth 16)]) ∧
    (f = .rx → ∃ t, exec .read s = .next t ∧ t.draws = s.draws + 1 ∧
      t.rx.get = inc s.cfg.modeRx s.cfg.capRx s.rx.get ∧ t.rx.put = s.rx.put ∧ t.rx.store = s.rx.store ∧
      Marker.unwrittenSlot .rx s.rx.get.toNat ∈ t.markers ∧
      t.trace = s.trace ++ [.issued .fg .read, .returned .fg ((Config.freeByte s.draws).setWidth 16)]) ∧
    (f = .tx → 6 ≤ s.grant → 0 < s.occ .tx → ∃ t, exec .txrdy s = .next t ∧ t.draws = s.draws + 1 ∧
      t.tx.get = inc s.cfg.modeTx s.cfg.capTx s.tx.get ∧ t.tx.put = s.tx.put ∧ t.tx.store = s.tx.store ∧
      Marker.unwrittenSlot .tx s.tx.get.toNat ∈ t.markers ∧
      t.trace = s.trace ++ [.issued .txi .txrdy, .called .txi (.writeDataRegister (Config.freeByte s.draws)),
        .called .txi .acknowledgeTransmitInterrupt]) ∧
    (f = .tx → 7 ≤ s.grant → 0 < s.occ .tx → s.stalled = true → s.txEmptyAnswer = true →
      let d := if s.cfg.env = .oracle ∧ s.oracle.txEmpty = [] then s.draws + 1 else s.draws
      ∃ t, exec .resume s = .next t ∧ t.draws = d + 1 ∧
        t.tx.get = inc s.cfg.modeTx s.cfg.capTx s.tx.get ∧ t.tx.put = s.tx.put ∧ t.tx.store = s.tx.store ∧
        t.stalled = false ∧ Marker.unwrittenSlot .tx s.tx.get.toNat ∈ t.markers ∧
        t.trace = s.trace ++ [.issued .fg .resume, .called .fg (.isTransmitRegisterEmpty true),
          .called .fg (.writeDataRegister (Config.freeByte d))])

/-- R107, R108, R135: FLEN, FSIZ and AVAIL, in either context at rest, answer the occupancy, the capacity and the inbound
occupancy as 16-bit words, and change nothing but the trace. -/
def Obligations.PureCommandsAnswerAndChangeNothing : Prop :=
  ∀ s : State, (s.ctx s.issuer).pc = .idle →
    let a := s.agentOf s.issuer
    (∀ f, exec (.flen f) s = .next { s with
      trace := s.trace ++ [.issued a (.flen f), .returned a (BitVec.ofNat 16 (occOf (s.cap f) (s.fifo f)))] }) ∧
    (∀ f, exec (.fsiz f) s = .next { s with
      trace := s.trace ++ [.issued a (.fsiz f), .returned a (BitVec.ofNat 16 (s.cap f))] }) ∧
    exec .avail s = .next { s with
      trace := s.trace ++ [.issued a .avail, .returned a (BitVec.ofNat 16 (occOf s.cfg.capRx s.rx))] }

/-- R24, R51: the frame of FCLR, FPUT and FGET, in any context and however far the slice goes: the other FIFO, the flag, the
peripheral, both handlers, the configuration and the inputs are unchanged. FCLR leaves storage, FPUT leaves get and every
slot but the one at put, FGET leaves put and storage; FCLR and FPUT leave the draws. That in handler context both handlers'
own contexts are unchanged rests on the call frame, the model's choice for these commands (log 5). -/
def Obligations.ContainerFrame : Prop :=
  ∀ (s t : State) (f : Sel) (i : Instr), (i = .fclr f ∨ (∃ v, i = .fput f v) ∨ i = .fget f) → exec i s = .next t →
    (∀ g, g ≠ f → t.fifo g = s.fifo g) ∧ t.stalled = s.stalled ∧ t.per = s.per ∧ t.oracle = s.oracle ∧
    t.txi = s.txi ∧ t.rxi = s.rxi ∧ t.rxiSw = s.rxiSw ∧ t.cfg = s.cfg ∧ t.boot = s.boot ∧ t.cmds = s.cmds ∧
    t.turns = s.turns ∧ t.grant = s.grant ∧ (s.issuer = .fg → t.call = s.call) ∧ (s.issuer = .call → t.fg = s.fg) ∧
    (i = .fclr f → (t.fifo f).store = (s.fifo f).store ∧ t.draws = s.draws) ∧
    (∀ v, i = .fput f v → (t.fifo f).get = (s.fifo f).get ∧ t.draws = s.draws ∧
      ∀ a, a ≠ (s.fifo f).put.toNat → memRead (t.fifo f).store a = memRead (s.fifo f).store a) ∧
    (i = .fget f → (t.fifo f).put = (s.fifo f).put ∧ (t.fifo f).store = (s.fifo f).store) ∧
    (i ≠ .fclr f → t.clrOrder = s.clrOrder)

/-- R109 c and d: with C unread elements, an FPUT destroys the oldest (it stores into the slot at get), the occupancy then
reads 1, and the next FGET returns that newest element. -/
def Obligations.OverflowOverwritesTheOldest : Prop :=
  ∀ (s : State) (f : Sel) (v : Byte), s.ready = true → 2 ≤ s.grant → s.cfg.wellFormed = true → 2 ≤ s.cap f →
    (s.fifo f).cnt = s.cap f → (s.fifo f).put = (s.fifo f).get → (s.fifo f).get.toNat < s.cap f →
    ∃ u t, exec (.fput f v) s = .next u ∧ Marker.fifoOverflow f ∈ u.markers ∧ u.occ f = 1 ∧
      (u.fifo f).get = (s.fifo f).get ∧ memRead (u.fifo f).store (s.fifo f).get.toNat = some v ∧
      exec (.fget f) u = .next t ∧
      t.trace = u.trace ++ [.issued .fg (.fget f), .returned .fg (v.setWidth 16)]

/-- R112, the FIFO property: from an empty FIFO, any sequence of FPUTs and FGETs run without interleaving in which the true
count stays in `0..C` records no marker, and the k-th FGET returns the operand of the k-th FPUT. -/
def Obligations.FifoOrderIsKept : Prop :=
  ∀ (f : Sel) (ops : List FifoOp) (s : State), s.Inv → s.ready = true → 2 ≤ s.grant →
    (s.fifo f).cnt = 0 → (s.fifo f).put = (s.fifo f).get →
    (∀ k, getsOf (ops.take k) ≤ (putsOf (ops.take k)).length ∧
      (putsOf (ops.take k)).length ≤ getsOf (ops.take k) + s.cap f) →
    ∃ t, playFifo f ops s = .next t ∧ t.markers = s.markers ∧
      responses t.trace =
        responses s.trace ++ ((putsOf ops).take (getsOf ops)).map (fun v => v.setWidth 16)

/-- R113, the length law: from equal indices, after any FPUTs and FGETs, also past overflow and empty gets, the occupancy is
the number of FPUTs minus the number of FGETs, modulo C. -/
def Obligations.LengthIsPutsMinusGets : Prop :=
  ∀ (f : Sel) (ops : List FifoOp) (s : State), s.Inv → s.ready = true → 2 ≤ s.grant → s.cfg.emptyGet = .stale →
    (s.fifo f).put = (s.fifo f).get →
    ∃ t, playFifo f ops s = .next t ∧
      (t.occ f : Int) = ((putsOf ops).length - (getsOf ops) : Int) % (s.cap f : Int)

/-- R35: while no FCLR of `f` is in progress or to come, every step keeps `occ(F) = F.cnt mod CAP_F`, unless FIFO_OVERFLOW(F)
or EMPTY_GET(F) is recorded. -/
def Obligations.OccupancyIsTheTrueCountModuloCapacity : Prop :=
  ∀ (s t : State) (f : Sel), s.CountLaw f → step s = .next t →
    Marker.fifoOverflow f ∈ t.markers ∨ Marker.emptyGet f ∈ t.markers ∨ t.CountLaw f

/-! ### The port in the foreground (41_serial_port.md) -/

/-- R132 below the watermark, no kick: with the port ACTIVE, or with the occupancy wrapped to 0 by the put (R240), WRITE
queues its byte and its RESUME is a no-op; no surface call is made. With CAP_TX unread elements, which a full FIFO that looks
empty lets through, the put records FIFO_OVERFLOW(TX) and the true count stays (R105, R109). -/
def Obligations.WriteQueuesWithoutAKick : Prop :=
  ∀ (s : State) (b : Byte), s.ready = true → 7 ≤ s.grant → s.watermark = false →
    (s.stalled = false ∨
      occOf s.cfg.capTx { s.tx with put := inc s.cfg.modeTx s.cfg.capTx s.tx.put } = 0) →
    exec (.write b) s = .next { s with
      tx := { get := s.tx.get, put := inc s.cfg.modeTx s.cfg.capTx s.tx.put,
              store := memWrite s.tx.store s.tx.put.toNat b,
              cnt := if s.tx.cnt = s.cfg.capTx then s.cfg.capTx else s.tx.cnt + 1 }
      fg := { s.fg with pc := .idle, sel := .tx, b := b, ret := .idle }
      markers :=
        if s.tx.cnt = s.cfg.capTx ∧ Marker.fifoOverflow .tx ∉ s.markers
        then s.markers ++ [.fifoOverflow .tx] else s.markers
      trace := s.trace ++ [.issued .fg (.write b)] }

/-- R132, R133 below the watermark, STALLED: WRITE queues its byte (with CAP_TX unread elements the put records
FIFO_OVERFLOW(TX), R105), and then its RESUME has data queued. The register empty, that RESUME sends the oldest queued byte to
the data register and clears the flag. The register not empty for as long as WRITE is granted actions, in either environment,
it holds at S3 and only polls (R138): the byte stays queued, nothing is sent, the flag stays. -/
def Obligations.WriteKicksAStalledTransmitter : Prop :=
  ∀ (s : State) (b : Byte), s.ready = true → s.watermark = false → 0 < s.cfg.capTx → s.stalled = true →
    0 < occOf s.cfg.capTx { s.tx with put := inc s.cfg.modeTx s.cfg.capTx s.tx.put } →
    let marked :=
      if s.tx.cnt = s.cfg.capTx ∧ Marker.fifoOverflow .tx ∉ s.markers
      then s.markers ++ [.fifoOverflow .tx] else s.markers
    (∀ v, 12 ≤ s.grant → s.txEmptyAnswer = true →
      memRead (memWrite s.tx.store s.tx.put.toNat b) s.tx.get.toNat = some v →
      ∃ t, exec (.write b) s = .next t ∧
        t.tx = { get := inc s.cfg.modeTx s.cfg.capTx s.tx.get, put := inc s.cfg.modeTx s.cfg.capTx s.tx.put,
                 store := memWrite s.tx.store s.tx.put.toNat b,
                 cnt := if s.tx.cnt = s.cfg.capTx then s.cfg.capTx - 1 else s.tx.cnt } ∧
        t.stalled = false ∧ t.fg.pc = .idle ∧ t.rx = s.rx ∧ t.markers = marked ∧
        t.trace = s.trace ++ [.issued .fg (.write b), .called .fg (.isTransmitRegisterEmpty true),
          .called .fg (.writeDataRegister v)] ∧
        (s.cfg.env = .reference → t.per = { s.per with txLog := s.per.txLog ++ [v], txEmpty := false })) ∧
    (8 ≤ s.grant → s.pollsFalse (s.grant - 7) →
      ∃ t, exec (.write b) s = .next t ∧
        t.tx = { get := s.tx.get, put := inc s.cfg.modeTx s.cfg.capTx s.tx.put,
                 store := memWrite s.tx.store s.tx.put.toNat b,
                 cnt := if s.tx.cnt = s.cfg.capTx then s.cfg.capTx else s.tx.cnt + 1 } ∧
        t.stalled = true ∧ t.fg.pc = .s3 ∧ t.fg.ret = .idle ∧ t.rx = s.rx ∧ t.per = s.per ∧ t.markers = marked ∧
        t.oracle = (s.polled (s.grant - 7)).oracle ∧ t.draws = (s.polled (s.grant - 7)).draws ∧
        t.trace = s.trace ++ .issued .fg (.write b) ::
          List.replicate (s.grant - 7) (.called .fg (.isTransmitRegisterEmpty false)))

/-- R132, R138, R235 at the watermark: WRITE records TX_THROTTLE, and its byte is not queued however many actions it is
granted. ACTIVE, its first RESUME is a no-op and it holds at W3. STALLED with the register empty, its first RESUME kicks: the
oldest byte is sent, the flag cleared, and WRITE holds at W3. STALLED with the register not empty for as long as it is granted
actions, in either environment, it holds at that RESUME's S3 and only polls. -/
def Obligations.WriteHoldsAtTheWatermark : Prop :=
  ∀ (s : State) (b : Byte), s.ready = true → s.watermark = true → 0 < s.cfg.capTx →
    (3 ≤ s.grant → s.stalled = false →
      ∃ t, exec (.write b) s = .next t ∧ t.fg.pc = .w3 ∧ t.fg.b = b ∧ Marker.txThrottle ∈ t.markers ∧
        t.tx = s.tx ∧ t.rx = s.rx ∧ t.stalled = false ∧ t.per = s.per ∧
        t.trace = s.trace ++ [.issued .fg (.write b)]) ∧
    (∀ v, 9 ≤ s.grant → s.Inv → s.stalled = true → s.txEmptyAnswer = true →
      (s.tx.cnt = 0 → s.cfg.emptyGet = .stale) → memRead s.tx.store s.tx.get.toNat = some v →
      ∃ t, exec (.write b) s = .next t ∧ t.fg.pc = .w3 ∧ t.fg.b = b ∧ Marker.txThrottle ∈ t.markers ∧
        t.tx = { s.tx with get := inc s.cfg.modeTx s.cfg.capTx s.tx.get, cnt := s.tx.cnt - 1 } ∧ t.rx = s.rx ∧
        t.stalled = false ∧
        (s.tx.cnt = 0 → Marker.emptyGet .tx ∈ t.markers) ∧
        (s.cfg.env = .reference → t.per = { s.per with txLog := s.per.txLog ++ [v], txEmpty := false }) ∧
        t.trace = s.trace ++ [.issued .fg (.write b), .called .fg (.isTransmitRegisterEmpty true),
          .called .fg (.writeDataRegister v)]) ∧
    (5 ≤ s.grant → s.stalled = true → s.pollsFalse (s.grant - 4) →
      ∃ t, exec (.write b) s = .next t ∧ t.fg.pc = .s3 ∧ t.fg.ret = .w3 ∧ t.fg.b = b ∧
        Marker.txThrottle ∈ t.markers ∧ t.tx = s.tx ∧ t.rx = s.rx ∧ t.stalled = true ∧ t.per = s.per ∧
        t.oracle = (s.polled (s.grant - 4)).oracle ∧ t.draws = (s.polled (s.grant - 4)).draws ∧
        t.trace = s.trace ++ .issued .fg (.write b) ::
          List.replicate (s.grant - 4) (.called .fg (.isTransmitRegisterEmpty false)))

/-- R132, R242: the drain-wait ends at occupancy zero and nowhere else; then the latched byte is queued (with FIFO_OVERFLOW(TX)
when CAP_TX elements are unread, R105). The port ACTIVE, or the occupancy wrapped to 0 by the put, the second RESUME is a no-op
and WRITE returns. The port STALLED with two slots or more: the register empty, the second RESUME kicks and sends that very
byte; the register not empty for as long as actions are granted, in either environment, it holds at S3 and only polls. -/
def Obligations.DrainWaitEndsAtOccupancyZero : Prop :=
  ∀ (s : State) (n : Nat), s.fg.pc = .w3 →
    let marked :=
      if s.tx.cnt = s.cfg.capTx ∧ Marker.fifoOverflow .tx ∉ s.markers
      then s.markers ++ [.fifoOverflow .tx] else s.markers
    (s.occ .tx ≠ 0 → runCtx .fg n s = .next s) ∧
    (s.occ .tx = 0 →
      (6 ≤ n ∧ s.stalled = false ∨
        7 ≤ n ∧ occOf s.cfg.capTx { s.tx with put := inc s.cfg.modeTx s.cfg.capTx s.tx.put } = 0) →
      runCtx .fg n s = .next { s with
        tx := { get := s.tx.get, put := inc s.cfg.modeTx s.cfg.capTx s.tx.put,
                store := memWrite s.tx.store s.tx.put.toNat s.fg.b,
                cnt := if s.tx.cnt = s.cfg.capTx then s.cfg.capTx else s.tx.cnt + 1 }
        fg := { s.fg with pc := .idle, sel := .tx, ret := .idle }
        markers := marked }) ∧
    (s.occ .tx = 0 → 12 ≤ n → s.Inv → 2 ≤ s.cfg.capTx → s.stalled = true → s.txEmptyAnswer = true →
      ∃ t, runCtx .fg n s = .next t ∧ t.fg.pc = .idle ∧ t.stalled = false ∧ t.rx = s.rx ∧
        t.tx = { get := inc s.cfg.modeTx s.cfg.capTx s.tx.get, put := inc s.cfg.modeTx s.cfg.capTx s.tx.put,
                 store := memWrite s.tx.store s.tx.put.toNat s.fg.b,
                 cnt := if s.tx.cnt = s.cfg.capTx then s.cfg.capTx - 1 else s.tx.cnt } ∧
        t.markers = marked ∧
        (s.cfg.env = .reference → t.per = { s.per with txLog := s.per.txLog ++ [s.fg.b], txEmpty := false }) ∧
        t.trace = s.trace ++ [.called .fg (.isTransmitRegisterEmpty true), .called .fg (.writeDataRegister s.fg.b)]) ∧
    (s.occ .tx = 0 → 8 ≤ n → s.Inv → 2 ≤ s.cfg.capTx → s.stalled = true → s.pollsFalse (n - 7) →
      ∃ t, runCtx .fg n s = .next t ∧ t.fg.pc = .s3 ∧ t.fg.ret = .idle ∧ t.stalled = true ∧ t.rx = s.rx ∧
        t.tx = { get := s.tx.get, put := inc s.cfg.modeTx s.cfg.capTx s.tx.put,
                 store := memWrite s.tx.store s.tx.put.toNat s.fg.b,
                 cnt := if s.tx.cnt = s.cfg.capTx then s.cfg.capTx else s.tx.cnt + 1 } ∧
        t.markers = marked ∧ t.per = s.per ∧
        t.oracle = (s.polled (n - 7)).oracle ∧ t.draws = (s.polled (n - 7)).draws ∧
        t.trace = s.trace ++ List.replicate (n - 7) (.called .fg (.isTransmitRegisterEmpty false)))

/-- R216: WRITE issued in handler context is refused: the marker CONTEXT_VIOLATION and nothing else. -/
def Obligations.WriteInHandlerContextIsRefused : Prop :=
  ∀ (s : State) (b : Byte), s.handlerActive = true →
    exec (.write b) s = .next { s with
      markers := if Marker.contextViolation (.write b) ∈ s.markers then s.markers
        else s.markers ++ [.contextViolation (.write b)] }

/-- R132, R62: the frame of WRITE, however far the slice goes: the inbound FIFO, the handlers, the call frame, the
configuration and the inputs are unchanged, and every outbound slot but the one at put keeps its content. -/
def Obligations.WriteFrame : Prop :=
  ∀ (s t : State) (b : Byte), exec (.write b) s = .next t →
    t.rx = s.rx ∧ t.txi = s.txi ∧ t.rxi = s.rxi ∧ t.rxiSw = s.rxiSw ∧ t.call = s.call ∧ t.cfg = s.cfg ∧
    t.boot = s.boot ∧ t.clrOrder = s.clrOrder ∧ t.cmds = s.cmds ∧ t.turns = s.turns ∧ t.grant = s.grant ∧
    t.per.txIrq = s.per.txIrq ∧ t.per.rxIrq = s.per.rxIrq ∧
    ∀ a, a ≠ s.tx.put.toNat → memRead t.tx.store a = memRead s.tx.store a

/-- R139: RESUME with the port ACTIVE or with an empty outbound FIFO is a no-op, in the foreground and in handler context: no
surface call, no register written. It runs in the running context's own phase register and temporaries (R133), comes back to
the phase it was issued from, and only the return phase kept there and the issue's record tell that it ran. Handler code
issues it between two of the handler's own phases (log 5). -/
def Obligations.ResumeIsANoOpWhenActiveOrEmpty : Prop :=
  ∀ s : State, s.canResume = true → 2 ≤ s.grant → (s.stalled = false ∨ s.occ .tx = 0) →
    exec .resume s = .next
      { s.setCtx s.resumer { s.ctx s.resumer with ret := (s.ctx s.resumer).pc } with
        trace := s.trace ++ [.issued (s.agentOf s.resumer) .resume] }

/-- R133, the kick: STALLED, occupancy above 0, register empty: one byte is dequeued and written to the data register, and the
flag is cleared. With true count 0 under the policy `stale` the byte is the slot's old content and EMPTY_GET(TX) is recorded
(R111, R205). -/
def Obligations.ResumeKicks : Prop :=
  ∀ (s : State) (v : Byte), s.ready = true → 7 ≤ s.grant → s.stalled = true → 0 < s.occ .tx →
    s.txEmptyAnswer = true → memRead s.tx.store s.tx.get.toNat = some v → (s.tx.cnt = 0 → s.cfg.emptyGet = .stale) →
    ∃ t, exec .resume s = .next t ∧
      t.tx = { s.tx with get := inc s.cfg.modeTx s.cfg.capTx s.tx.get, cnt := s.tx.cnt - 1 } ∧
      t.stalled = false ∧ t.fg.pc = .idle ∧ t.rx = s.rx ∧
      t.markers =
        (if s.tx.cnt = 0 ∧ Marker.emptyGet .tx ∉ s.markers then s.markers ++ [.emptyGet .tx] else s.markers) ∧
      t.trace = s.trace ++ [.issued .fg .resume, .called .fg (.isTransmitRegisterEmpty true),
        .called .fg (.writeDataRegister v)] ∧
      (s.cfg.env = .reference → t.per = { s.per with txLog := s.per.txLog ++ [v], txEmpty := false })

/-- R138, R235, R241: STALLED with data queued and the register not empty, RESUME holds at S3 for as many actions as it is
granted, in the foreground and in handler context, with the reference peripheral and with an oracle that answers false
(R190 a): it only polls, nothing is dequeued, nothing is sent, the flag stays, and the answers are used up. Handler code issues
it between two of the handler's own phases (log 5). A context at S3 goes on to S4 exactly when its poll answers true. -/
def Obligations.ResumeWaitsForTheEmptyRegister : Prop :=
  ∀ s : State,
    (s.canResume = true → 3 ≤ s.grant → s.stalled = true → 0 < s.occ .tx → s.pollsFalse (s.grant - 2) →
      exec .resume s = .next
        { s.setCtx s.resumer { s.ctx s.resumer with pc := .s3, ret := (s.ctx s.resumer).pc } with
          oracle := (s.polled (s.grant - 2)).oracle
          draws := (s.polled (s.grant - 2)).draws
          trace := s.trace ++ .issued (s.agentOf s.resumer) .resume ::
            List.replicate (s.grant - 2) (.called (s.agentOf s.resumer) (.isTransmitRegisterEmpty false)) }) ∧
    (∀ w, (s.ctx w).pc = .s3 → ∃ t, act w s = .next t ∧ (t.ctx w).pc = (if s.txEmptyAnswer then .s4 else .s3) ∧
      t.tx = s.tx ∧ t.stalled = s.stalled ∧ t.per = s.per ∧
      t.trace = s.trace ++ [.called (s.agentOf w) (.isTransmitRegisterEmpty s.txEmptyAnswer)])

/-- R133, R89: RESUME in handler context makes the same kick under the active handler's name, on the handler's own phase
register and temporaries: it comes back to the handler phase it was issued from, and the handler's `v` then holds the byte it
sent. Neither the foreground nor the other handler is touched. With true count 0 under the policy `stale` the byte is the slot's
old content and EMPTY_GET(TX) is recorded (R111, R205). Handler code issues it between two of the handler's own phases
(log 5). -/
def Obligations.ResumeKicksInHandlerContext : Prop :=
  ∀ (s : State) (v : Byte), s.handlerActive = true → s.canResume = true → 7 ≤ s.grant → s.stalled = true →
    0 < s.occ .tx → s.txEmptyAnswer = true → memRead s.tx.store s.tx.get.toNat = some v →
    (s.tx.cnt = 0 → s.cfg.emptyGet = .stale) →
    ∃ t, exec .resume s = .next t ∧
      t.ctx s.activeHandler = { s.ctx s.activeHandler with v := v, ret := (s.ctx s.activeHandler).pc } ∧
      (∀ w, w ≠ s.activeHandler → t.ctx w = s.ctx w) ∧
      t.tx = { s.tx with get := inc s.cfg.modeTx s.cfg.capTx s.tx.get, cnt := s.tx.cnt - 1 } ∧ t.rx = s.rx ∧
      t.stalled = false ∧
      t.markers =
        (if s.tx.cnt = 0 ∧ Marker.emptyGet .tx ∉ s.markers then s.markers ++ [.emptyGet .tx] else s.markers) ∧
      t.trace = s.trace ++ [.issued (s.agentOf s.activeHandler) .resume,
        .called (s.agentOf s.activeHandler) (.isTransmitRegisterEmpty true),
        .called (s.agentOf s.activeHandler) (.writeDataRegister v)] ∧
      (s.cfg.env = .reference → t.per = { s.per with txLog := s.per.txLog ++ [v], txEmpty := false })

/-- R133, R134, R62: the frames of RESUME and READ, however far the slice goes. RESUME leaves the inbound FIFO, the outbound
put and storage, and every context but the one it runs in (the active handler's own in handler context, R133). READ leaves the
outbound FIFO, the inbound put and storage, the flag, the peripheral, the oracle, both handlers, and every context but the one
it is issued in; that this is the call frame in handler context is the model's choice (log 5). Both leave the configuration and
the inputs. -/
def Obligations.ResumeAndReadFrame : Prop :=
  ∀ (s t : State) (i : Instr), (i = .resume ∨ i = .read) → exec i s = .next t →
    t.rxiSw = s.rxiSw ∧ t.cfg = s.cfg ∧ t.boot = s.boot ∧ t.clrOrder = s.clrOrder ∧
    t.cmds = s.cmds ∧ t.turns = s.turns ∧ t.grant = s.grant ∧
    (i = .resume → t.rx = s.rx ∧ t.tx.put = s.tx.put ∧ t.tx.store = s.tx.store ∧
      ∀ w, w ≠ s.resumer → t.ctx w = s.ctx w) ∧
    (i = .read → t.tx = s.tx ∧ t.rx.put = s.rx.put ∧ t.rx.store = s.rx.store ∧ t.stalled = s.stalled ∧
      t.per = s.per ∧ t.oracle = s.oracle ∧ ∀ w, w ≠ s.issuer → t.ctx w = s.ctx w)

/-- R134: READ on a written slot with unread bytes returns the byte at get, zero-extended, and advances get; it is FGET on RX
and makes no surface call. -/
def Obligations.ReadDequeuesOneInboundByte : Prop :=
  ∀ (s : State) (v : Byte), s.ready = true → 2 ≤ s.grant → s.rx.cnt ≠ 0 →
    memRead s.rx.store s.rx.get.toNat = some v →
    exec .read s = .next { s with
      rx := { s.rx with get := inc s.cfg.modeRx s.cfg.capRx s.rx.get, cnt := s.rx.cnt - 1 }
      fg := { s.fg with pc := .idle, v := v }
      trace := s.trace ++ [.issued .fg .read, .returned .fg (v.setWidth 16)] }

/-- R141, the watermark guarantee: with CAP_TX 8 or more, WRITE from the foreground the only source of FPUT on TX, and no
EMPTY_GET(TX) recorded, every step keeps the true count at most `ceil(7 * CAP_TX / 8)`, equal to the occupancy, and no
FIFO_OVERFLOW(TX) is recorded. -/
def Obligations.WatermarkPreventsOutboundOverflow : Prop :=
  ∀ s t : State, s.TxGuard → step s = .next t → Marker.emptyGet .tx ∈ t.markers ∨ t.TxGuard

/-! ### The handlers (42_interrupt_handlers.md) -/

/-- R161 with data: TXRDY sends one queued byte, leaves the flag as it was, and acknowledges last; the foreground, wherever it
stands, is untouched. With true count 0 under the policy `stale` the byte is the slot's old content and EMPTY_GET(TX) is recorded
(R111, R205). With the reference peripheral the byte is logged when the register is empty and else ignored with
TX_DATA_OVERRUN (R191). -/
def Obligations.TxrdySendsOneByte : Prop :=
  ∀ (s : State) (v : Byte), s.handlerActive = false → 6 ≤ s.grant → 0 < s.occ .tx →
    (s.tx.cnt = 0 → s.cfg.emptyGet = .stale) → memRead s.tx.store s.tx.get.toNat = some v →
    let marked := if s.tx.cnt = 0 ∧ Marker.emptyGet .tx ∉ s.markers then s.markers ++ [.emptyGet .tx] else s.markers
    ∃ t, exec .txrdy s = .next t ∧
      t.tx = { s.tx with get := inc s.cfg.modeTx s.cfg.capTx s.tx.get, cnt := s.tx.cnt - 1 } ∧
      t.stalled = s.stalled ∧ t.txi.pc = .idle ∧ t.fg = s.fg ∧ t.rx = s.rx ∧ t.per.txIrq = false ∧
      t.trace = s.trace ++ [.issued .txi .txrdy, .called .txi (.writeDataRegister v),
        .called .txi .acknowledgeTransmitInterrupt] ∧
      (s.cfg.env = .reference → s.per.txEmpty = true →
        t.per = { s.per with txLog := s.per.txLog ++ [v], txEmpty := false, txIrq := false } ∧ t.markers = marked) ∧
      (s.cfg.env = .reference → s.per.txEmpty = false →
        t.per = { s.per with txIrq := false } ∧
        t.markers = (if Marker.txDataOverrun v ∈ marked then marked else marked ++ [.txDataOverrun v])) ∧
      (s.cfg.env = .oracle → t.per = { s.per with txIrq := false } ∧ t.markers = marked)

/-- R161 without data: TXRDY sets the flag, makes no data write, and acknowledges. -/
def Obligations.TxrdyStallsOnAnEmptyQueue : Prop :=
  ∀ s : State, s.handlerActive = false → 3 ≤ s.grant → s.occ .tx = 0 →
    exec .txrdy s = .next { s with
      stalled := true
      txi := { s.txi with pc := .idle }
      per := { s.per with txIrq := false }
      trace := s.trace ++ [.issued .txi .txrdy, .called .txi .acknowledgeTransmitInterrupt] }

/-- R162, good byte: RXRDY reads status and data once, enqueues the data byte and acknowledges; the flag is untouched. With
CAP_RX unread bytes the oldest slot is overwritten and only the ghost marker tells (R164). -/
def Obligations.RxrdyEnqueuesAGoodByte : Prop :=
  ∀ s : State, s.handlerActive = false → 5 ≤ s.grant →
    s.statusAnswer.oe = false → s.statusAnswer.fe = false → s.statusAnswer.pe = false → s.statusAnswer.sum = false →
    ∃ t, exec .rxrdy s = .next t ∧
      t.rx = { get := s.rx.get, put := inc s.cfg.modeRx s.cfg.capRx s.rx.put,
               store := memWrite s.rx.store s.rx.put.toNat s.statusAnswer.data,
               cnt := if s.rx.cnt = s.cfg.capRx then s.cfg.capRx else s.rx.cnt + 1 } ∧
      t.tx = s.tx ∧ t.stalled = s.stalled ∧ t.rxi.pc = .idle ∧ t.fg = s.fg ∧
      t.per = { s.per with rxIrq := false } ∧
      t.trace = s.trace ++ [.issued .rxi .rxrdy, .called .rxi (.readStatusAndData s.statusAnswer),
        .called .rxi .acknowledgeReceiveInterrupt] ∧
      (s.rx.cnt ≠ s.cfg.capRx → t.markers = s.markers) ∧
      (s.rx.cnt = s.cfg.capRx → Marker.fifoOverflow .rx ∈ t.markers)

/-- R162, R163, R202, line error: with any of the four flags set the inbound FIFO is unchanged, the error latch is cleared
exactly once, RX_LINE_ERROR is recorded, and the interrupt is acknowledged. -/
def Obligations.RxrdyDropsAByteWithAnErrorFlag : Prop :=
  ∀ s : State, s.handlerActive = false → 3 ≤ s.grant →
    (s.statusAnswer.oe = true ∨ s.statusAnswer.fe = true ∨ s.statusAnswer.pe = true ∨ s.statusAnswer.sum = true) →
    ∃ t, exec .rxrdy s = .next t ∧ t.rx = s.rx ∧ t.tx = s.tx ∧ t.stalled = s.stalled ∧ t.rxi.pc = .idle ∧
      t.fg = s.fg ∧ t.per = { s.per with errLatch := false, rxIrq := false } ∧
      Marker.rxLineError s.statusAnswer ∈ t.markers ∧
      t.trace = s.trace ++ [.issued .rxi .rxrdy, .called .rxi (.readStatusAndData s.statusAnswer),
        .called .rxi .clearReceiveErrorLatch, .called .rxi .acknowledgeReceiveInterrupt]

/-- R62, R161, R162, R210: the frames of the handlers, however far the slice goes. TXRDY leaves the inbound FIFO and the
outbound put and storage; RXRDY leaves the outbound FIFO, the flag, the inbound get, and every inbound slot but the one at
put. Both leave the foreground, the other handler, the call frame, the configuration and the inputs. -/
def Obligations.HandlerFrame : Prop :=
  ∀ s t : State,
    (exec .txrdy s = .next t →
      t.rx = s.rx ∧ t.tx.put = s.tx.put ∧ t.tx.store = s.tx.store ∧ t.fg = s.fg ∧ t.rxi = s.rxi ∧ t.rxiSw = s.rxiSw ∧
      t.call = s.call ∧ t.cfg = s.cfg ∧ t.boot = s.boot ∧ t.clrOrder = s.clrOrder ∧ t.cmds = s.cmds ∧
      t.turns = s.turns ∧ t.grant = s.grant ∧ t.oracle = s.oracle) ∧
    (exec .rxrdy s = .next t →
      t.tx = s.tx ∧ t.stalled = s.stalled ∧ t.rx.get = s.rx.get ∧ t.fg = s.fg ∧ t.txi = s.txi ∧ t.call = s.call ∧
      t.cfg = s.cfg ∧ t.boot = s.boot ∧ t.clrOrder = s.clrOrder ∧ t.cmds = s.cmds ∧ t.turns = s.turns ∧
      t.grant = s.grant ∧ ∀ a, a ≠ s.rx.put.toNat → memRead t.rx.store a = memRead s.rx.store a)

/-! ### Hazards and the peripheral (70_reset_and_hazards.md, 43_peripheral_surface.md) -/

/-- R237, the lost wake-up: a transmit-ready handler between RESUME's S6 and S7 that finds the queue empty, and then S7, leave
the port ACTIVE with nothing pending, nothing queued and nothing sent by either step; with the reference peripheral and its
register empty before, nothing is in flight after. The RESUME may be one of WRITE's (it returns to `fg.ret`). The two turns are
the model's schedule (log 1). -/
def Obligations.LostWakeUp : Prop :=
  ∀ (s : State) (m n : Nat) (rest : List Turn), s.cfg.wellFormed = true → s.boot = .done → s.fg.pc = .s7 →
    (m = 0 ∨ s.fg.ret = .idle) → s.startable .transmit = true → s.occ .tx = 0 →
    s.turns = .interrupt .transmit (n + 3) :: .foreground (m + 1) :: rest →
    ∃ u t, step s = .next u ∧ step u = .next t ∧ t.stalled = false ∧ t.per.txIrq = false ∧ t.occ .tx = 0 ∧
      t.fg.pc = s.fg.ret ∧ t.handlerActive = false ∧ transmitted t.trace = transmitted s.trace ∧
      (s.cfg.env = .reference → s.per.txEmpty = true → t.per.txEmpty = true)

/-- R238, the double dequeue: a transmit-ready handler between RESUME's S4 and S5 sends the byte the foreground has read; the
foreground then sends it again and moves get a second time. When only that byte was queued EMPTY_GET(TX) is recorded and, the
occupancy having been 1, it becomes CAP_TX - 1. When more were queued the byte after it is skipped: two are taken from the true
count and no EMPTY_GET is recorded. The RESUME may be one of WRITE's (it returns to `fg.ret`). The two turns are the model's
schedule (log 1). -/
def Obligations.DoubleDequeue : Prop :=
  ∀ (s : State) (v : Byte) (m n : Nat) (rest : List Turn), s.cfg.wellFormed = true →
    (s.tx.cnt = 1 → s.cfg.emptyGet = .stale) →
    s.boot = .done → s.fg.pc = .s5 → (m = 0 ∨ s.fg.ret = .idle) → s.fg.v = v → s.tx.cnt ≠ 0 → 0 < s.occ .tx →
    memRead s.tx.store s.tx.get.toNat = some v → s.startable .transmit = true →
    s.turns = .interrupt .transmit (n + 6) :: .foreground (m + 3) :: rest →
    ∃ u t, step s = .next u ∧ step u = .next t ∧ t.stalled = false ∧ t.fg.pc = s.fg.ret ∧
      t.tx.get = inc s.cfg.modeTx s.cfg.capTx (inc s.cfg.modeTx s.cfg.capTx s.tx.get) ∧ t.tx.put = s.tx.put ∧
      t.tx.cnt = s.tx.cnt - 2 ∧ transmitted t.trace = transmitted s.trace ++ [v, v] ∧
      (s.tx.cnt = 1 → Marker.emptyGet .tx ∈ t.markers) ∧
      (2 ≤ s.tx.cnt → Marker.emptyGet .tx ∈ t.markers → Marker.emptyGet .tx ∈ s.markers) ∧
      (s.Inv → s.occ .tx = 1 → t.occ .tx = s.cap .tx - 1)

/-- R239, acknowledge after write: a transmit-ready condition the reference peripheral raises between T3 and T5 is cleared by
T5's acknowledge. -/
def Obligations.AcknowledgeClearsALaterCondition : Prop :=
  ∀ (s : State) (n : Nat) (rest : List Turn), s.cfg.wellFormed = true → s.cfg.env = .reference → s.txi.pc = .t5 →
    s.call.pc = .idle → s.per.txEmpty = false → s.turns = .peripheral .txDone :: .handler (n + 1) :: rest →
    ∃ u t, step s = .next u ∧ u.per.txIrq = true ∧ step u = .next t ∧ t.per.txIrq = false ∧ t.per.txEmpty = true ∧
      t.txi.pc = .idle

/-- R190 b, R191: PER's own steps. The reference peripheral's TX_DONE empties a full register and raises transmit-ready;
RX_ARRIVE takes the next frame of the script, raises receive-ready, and sets the latch on an error frame; neither happens
when its condition does not hold. The oracle may raise either condition at any time. That a peripheral turn of the other
environment changes nothing (the last two clauses) is the model's choice (log 12). -/
def Obligations.PeripheralStepsOfItsOwn : Prop :=
  ∀ (s : State) (p : PerStep) (rest : List Turn), s.cfg.wellFormed = true → s.turns = .peripheral p :: rest →
    ∃ q : Per, step s = .next { s with turns := rest, grant := 0, per := q } ∧
      (s.cfg.env = .reference → p = .txDone → s.per.txEmpty = false →
        q = { s.per with txEmpty := true, txIrq := true }) ∧
      (s.cfg.env = .reference → p = .txDone → s.per.txEmpty = true → q = s.per) ∧
      (∀ w ws, s.cfg.env = .reference → p = .rxArrive → s.per.rxFeed = w :: ws → s.per.rxIrq = false →
        q = { s.per with rxWord := w, rxFeed := ws, rxIrq := true, errLatch := s.per.errLatch || rxError w }) ∧
      (s.cfg.env = .reference → p = .rxArrive → (s.per.rxFeed = [] ∨ s.per.rxIrq = true) → q = s.per) ∧
      (s.cfg.env = .oracle → p = .raiseTransmit → q = { s.per with txIrq := true }) ∧
      (s.cfg.env = .oracle → p = .raiseReceive → q = { s.per with rxIrq := true }) ∧
      (s.cfg.env = .oracle → (p = .txDone ∨ p = .rxArrive) → q = s.per) ∧
      (s.cfg.env = .reference → (p = .raiseTransmit ∨ p = .raiseReceive) → q = s.per)
end

