-- ==== Sys2Proof/Laws/State.lean ====
section
/-! SUPPORT. One lemma per field per update of State, so that no proof unfolds a record update. -/

namespace Sys2Proof.Machine

/-! ### `State.emit` -/

@[simp] theorem State.emit_cfg (s : State) (e : Event) : (s.emit e).cfg = s.cfg := rfl
@[simp] theorem State.emit_tx (s : State) (e : Event) : (s.emit e).tx = s.tx := rfl
@[simp] theorem State.emit_rx (s : State) (e : Event) : (s.emit e).rx = s.rx := rfl
@[simp] theorem State.emit_stalled (s : State) (e : Event) : (s.emit e).stalled = s.stalled := rfl
@[simp] theorem State.emit_fg (s : State) (e : Event) : (s.emit e).fg = s.fg := rfl
@[simp] theorem State.emit_txi (s : State) (e : Event) : (s.emit e).txi = s.txi := rfl
@[simp] theorem State.emit_rxi (s : State) (e : Event) : (s.emit e).rxi = s.rxi := rfl
@[simp] theorem State.emit_rxiSw (s : State) (e : Event) : (s.emit e).rxiSw = s.rxiSw := rfl
@[simp] theorem State.emit_call (s : State) (e : Event) : (s.emit e).call = s.call := rfl
@[simp] theorem State.emit_boot (s : State) (e : Event) : (s.emit e).boot = s.boot := rfl
@[simp] theorem State.emit_per (s : State) (e : Event) : (s.emit e).per = s.per := rfl
@[simp] theorem State.emit_oracle (s : State) (e : Event) : (s.emit e).oracle = s.oracle := rfl
@[simp] theorem State.emit_draws (s : State) (e : Event) : (s.emit e).draws = s.draws := rfl
@[simp] theorem State.emit_clrOrder (s : State) (e : Event) : (s.emit e).clrOrder = s.clrOrder := rfl
@[simp] theorem State.emit_markers (s : State) (e : Event) : (s.emit e).markers = s.markers := rfl
@[simp] theorem State.emit_trace (s : State) (e : Event) : (s.emit e).trace = s.trace ++ [e] := rfl
@[simp] theorem State.emit_cmds (s : State) (e : Event) : (s.emit e).cmds = s.cmds := rfl
@[simp] theorem State.emit_turns (s : State) (e : Event) : (s.emit e).turns = s.turns := rfl
@[simp] theorem State.emit_grant (s : State) (e : Event) : (s.emit e).grant = s.grant := rfl

/-! ### `State.setStalled` -/

@[simp] theorem State.setStalled_cfg (s : State) (v : Bool) : (s.setStalled v).cfg = s.cfg := rfl
@[simp] theorem State.setStalled_tx (s : State) (v : Bool) : (s.setStalled v).tx = s.tx := rfl
@[simp] theorem State.setStalled_rx (s : State) (v : Bool) : (s.setStalled v).rx = s.rx := rfl
@[simp] theorem State.setStalled_stalled (s : State) (v : Bool) : (s.setStalled v).stalled = v := rfl
@[simp] theorem State.setStalled_fg (s : State) (v : Bool) : (s.setStalled v).fg = s.fg := rfl
@[simp] theorem State.setStalled_txi (s : State) (v : Bool) : (s.setStalled v).txi = s.txi := rfl
@[simp] theorem State.setStalled_rxi (s : State) (v : Bool) : (s.setStalled v).rxi = s.rxi := rfl
@[simp] theorem State.setStalled_rxiSw (s : State) (v : Bool) : (s.setStalled v).rxiSw = s.rxiSw := rfl
@[simp] theorem State.setStalled_call (s : State) (v : Bool) : (s.setStalled v).call = s.call := rfl
@[simp] theorem State.setStalled_boot (s : State) (v : Bool) : (s.setStalled v).boot = s.boot := rfl
@[simp] theorem State.setStalled_per (s : State) (v : Bool) : (s.setStalled v).per = s.per := rfl
@[simp] theorem State.setStalled_oracle (s : State) (v : Bool) : (s.setStalled v).oracle = s.oracle := rfl
@[simp] theorem State.setStalled_draws (s : State) (v : Bool) : (s.setStalled v).draws = s.draws := rfl
@[simp] theorem State.setStalled_clrOrder (s : State) (v : Bool) : (s.setStalled v).clrOrder = s.clrOrder := rfl
@[simp] theorem State.setStalled_markers (s : State) (v : Bool) : (s.setStalled v).markers = s.markers := rfl
@[simp] theorem State.setStalled_trace (s : State) (v : Bool) : (s.setStalled v).trace = s.trace := rfl
@[simp] theorem State.setStalled_cmds (s : State) (v : Bool) : (s.setStalled v).cmds = s.cmds := rfl
@[simp] theorem State.setStalled_turns (s : State) (v : Bool) : (s.setStalled v).turns = s.turns := rfl
@[simp] theorem State.setStalled_grant (s : State) (v : Bool) : (s.setStalled v).grant = s.grant := rfl

/-! ### `State.setPer` -/

@[simp] theorem State.setPer_cfg (s : State) (p : Per) : (s.setPer p).cfg = s.cfg := rfl
@[simp] theorem State.setPer_tx (s : State) (p : Per) : (s.setPer p).tx = s.tx := rfl
@[simp] theorem State.setPer_rx (s : State) (p : Per) : (s.setPer p).rx = s.rx := rfl
@[simp] theorem State.setPer_stalled (s : State) (p : Per) : (s.setPer p).stalled = s.stalled := rfl
@[simp] theorem State.setPer_fg (s : State) (p : Per) : (s.setPer p).fg = s.fg := rfl
@[simp] theorem State.setPer_txi (s : State) (p : Per) : (s.setPer p).txi = s.txi := rfl
@[simp] theorem State.setPer_rxi (s : State) (p : Per) : (s.setPer p).rxi = s.rxi := rfl
@[simp] theorem State.setPer_rxiSw (s : State) (p : Per) : (s.setPer p).rxiSw = s.rxiSw := rfl
@[simp] theorem State.setPer_call (s : State) (p : Per) : (s.setPer p).call = s.call := rfl
@[simp] theorem State.setPer_boot (s : State) (p : Per) : (s.setPer p).boot = s.boot := rfl
@[simp] theorem State.setPer_per (s : State) (p : Per) : (s.setPer p).per = p := rfl
@[simp] theorem State.setPer_oracle (s : State) (p : Per) : (s.setPer p).oracle = s.oracle := rfl
@[simp] theorem State.setPer_draws (s : State) (p : Per) : (s.setPer p).draws = s.draws := rfl
@[simp] theorem State.setPer_clrOrder (s : State) (p : Per) : (s.setPer p).clrOrder = s.clrOrder := rfl
@[simp] theorem State.setPer_markers (s : State) (p : Per) : (s.setPer p).markers = s.markers := rfl
@[simp] theorem State.setPer_trace (s : State) (p : Per) : (s.setPer p).trace = s.trace := rfl
@[simp] theorem State.setPer_cmds (s : State) (p : Per) : (s.setPer p).cmds = s.cmds := rfl
@[simp] theorem State.setPer_turns (s : State) (p : Per) : (s.setPer p).turns = s.turns := rfl
@[simp] theorem State.setPer_grant (s : State) (p : Per) : (s.setPer p).grant = s.grant := rfl

/-! ### `State.bumpDraws` -/

@[simp] theorem State.bumpDraws_cfg (s : State) : (s.bumpDraws).cfg = s.cfg := rfl
@[simp] theorem State.bumpDraws_tx (s : State) : (s.bumpDraws).tx = s.tx := rfl
@[simp] theorem State.bumpDraws_rx (s : State) : (s.bumpDraws).rx = s.rx := rfl
@[simp] theorem State.bumpDraws_stalled (s : State) : (s.bumpDraws).stalled = s.stalled := rfl
@[simp] theorem State.bumpDraws_fg (s : State) : (s.bumpDraws).fg = s.fg := rfl
@[simp] theorem State.bumpDraws_txi (s : State) : (s.bumpDraws).txi = s.txi := rfl
@[simp] theorem State.bumpDraws_rxi (s : State) : (s.bumpDraws).rxi = s.rxi := rfl
@[simp] theorem State.bumpDraws_rxiSw (s : State) : (s.bumpDraws).rxiSw = s.rxiSw := rfl
@[simp] theorem State.bumpDraws_call (s : State) : (s.bumpDraws).call = s.call := rfl
@[simp] theorem State.bumpDraws_boot (s : State) : (s.bumpDraws).boot = s.boot := rfl
@[simp] theorem State.bumpDraws_per (s : State) : (s.bumpDraws).per = s.per := rfl
@[simp] theorem State.bumpDraws_oracle (s : State) : (s.bumpDraws).oracle = s.oracle := rfl
@[simp] theorem State.bumpDraws_draws (s : State) : (s.bumpDraws).draws = s.draws + 1 := rfl
@[simp] theorem State.bumpDraws_clrOrder (s : State) : (s.bumpDraws).clrOrder = s.clrOrder := rfl
@[simp] theorem State.bumpDraws_markers (s : State) : (s.bumpDraws).markers = s.markers := rfl
@[simp] theorem State.bumpDraws_trace (s : State) : (s.bumpDraws).trace = s.trace := rfl
@[simp] theorem State.bumpDraws_cmds (s : State) : (s.bumpDraws).cmds = s.cmds := rfl
@[simp] theorem State.bumpDraws_turns (s : State) : (s.bumpDraws).turns = s.turns := rfl
@[simp] theorem State.bumpDraws_grant (s : State) : (s.bumpDraws).grant = s.grant := rfl

/-! ### `State.setRxiSw` -/

@[simp] theorem State.setRxiSw_cfg (s : State) (w : StatusWord) : (s.setRxiSw w).cfg = s.cfg := rfl
@[simp] theorem State.setRxiSw_tx (s : State) (w : StatusWord) : (s.setRxiSw w).tx = s.tx := rfl
@[simp] theorem State.setRxiSw_rx (s : State) (w : StatusWord) : (s.setRxiSw w).rx = s.rx := rfl
@[simp] theorem State.setRxiSw_stalled (s : State) (w : StatusWord) : (s.setRxiSw w).stalled = s.stalled := rfl
@[simp] theorem State.setRxiSw_fg (s : State) (w : StatusWord) : (s.setRxiSw w).fg = s.fg := rfl
@[simp] theorem State.setRxiSw_txi (s : State) (w : StatusWord) : (s.setRxiSw w).txi = s.txi := rfl
@[simp] theorem State.setRxiSw_rxi (s : State) (w : StatusWord) : (s.setRxiSw w).rxi = s.rxi := rfl
@[simp] theorem State.setRxiSw_rxiSw (s : State) (w : StatusWord) : (s.setRxiSw w).rxiSw = w := rfl
@[simp] theorem State.setRxiSw_call (s : State) (w : StatusWord) : (s.setRxiSw w).call = s.call := rfl
@[simp] theorem State.setRxiSw_boot (s : State) (w : StatusWord) : (s.setRxiSw w).boot = s.boot := rfl
@[simp] theorem State.setRxiSw_per (s : State) (w : StatusWord) : (s.setRxiSw w).per = s.per := rfl
@[simp] theorem State.setRxiSw_oracle (s : State) (w : StatusWord) : (s.setRxiSw w).oracle = s.oracle := rfl
@[simp] theorem State.setRxiSw_draws (s : State) (w : StatusWord) : (s.setRxiSw w).draws = s.draws := rfl
@[simp] theorem State.setRxiSw_clrOrder (s : State) (w : StatusWord) : (s.setRxiSw w).clrOrder = s.clrOrder := rfl
@[simp] theorem State.setRxiSw_markers (s : State) (w : StatusWord) : (s.setRxiSw w).markers = s.markers := rfl
@[simp] theorem State.setRxiSw_trace (s : State) (w : StatusWord) : (s.setRxiSw w).trace = s.trace := rfl
@[simp] theorem State.setRxiSw_cmds (s : State) (w : StatusWord) : (s.setRxiSw w).cmds = s.cmds := rfl
@[simp] theorem State.setRxiSw_turns (s : State) (w : StatusWord) : (s.setRxiSw w).turns = s.turns := rfl
@[simp] theorem State.setRxiSw_grant (s : State) (w : StatusWord) : (s.setRxiSw w).grant = s.grant := rfl

/-! ### `State.setBoot` -/

@[simp] theorem State.setBoot_cfg (s : State) (b : BootPhase) : (s.setBoot b).cfg = s.cfg := rfl
@[simp] theorem State.setBoot_tx (s : State) (b : BootPhase) : (s.setBoot b).tx = s.tx := rfl
@[simp] theorem State.setBoot_rx (s : State) (b : BootPhase) : (s.setBoot b).rx = s.rx := rfl
@[simp] theorem State.setBoot_stalled (s : State) (b : BootPhase) : (s.setBoot b).stalled = s.stalled := rfl
@[simp] theorem State.setBoot_fg (s : State) (b : BootPhase) : (s.setBoot b).fg = s.fg := rfl
@[simp] theorem State.setBoot_txi (s : State) (b : BootPhase) : (s.setBoot b).txi = s.txi := rfl
@[simp] theorem State.setBoot_rxi (s : State) (b : BootPhase) : (s.setBoot b).rxi = s.rxi := rfl
@[simp] theorem State.setBoot_rxiSw (s : State) (b : BootPhase) : (s.setBoot b).rxiSw = s.rxiSw := rfl
@[simp] theorem State.setBoot_call (s : State) (b : BootPhase) : (s.setBoot b).call = s.call := rfl
@[simp] theorem State.setBoot_boot (s : State) (b : BootPhase) : (s.setBoot b).boot = b := rfl
@[simp] theorem State.setBoot_per (s : State) (b : BootPhase) : (s.setBoot b).per = s.per := rfl
@[simp] theorem State.setBoot_oracle (s : State) (b : BootPhase) : (s.setBoot b).oracle = s.oracle := rfl
@[simp] theorem State.setBoot_draws (s : State) (b : BootPhase) : (s.setBoot b).draws = s.draws := rfl
@[simp] theorem State.setBoot_clrOrder (s : State) (b : BootPhase) : (s.setBoot b).clrOrder = s.clrOrder := rfl
@[simp] theorem State.setBoot_markers (s : State) (b : BootPhase) : (s.setBoot b).markers = s.markers := rfl
@[simp] theorem State.setBoot_trace (s : State) (b : BootPhase) : (s.setBoot b).trace = s.trace := rfl
@[simp] theorem State.setBoot_cmds (s : State) (b : BootPhase) : (s.setBoot b).cmds = s.cmds := rfl
@[simp] theorem State.setBoot_turns (s : State) (b : BootPhase) : (s.setBoot b).turns = s.turns := rfl
@[simp] theorem State.setBoot_grant (s : State) (b : BootPhase) : (s.setBoot b).grant = s.grant := rfl

/-! ### `State.takeTurn` -/

@[simp] theorem State.takeTurn_cfg (s : State) (r : List Turn) (n : Nat) : (s.takeTurn r n).cfg = s.cfg := rfl
@[simp] theorem State.takeTurn_tx (s : State) (r : List Turn) (n : Nat) : (s.takeTurn r n).tx = s.tx := rfl
@[simp] theorem State.takeTurn_rx (s : State) (r : List Turn) (n : Nat) : (s.takeTurn r n).rx = s.rx := rfl
@[simp] theorem State.takeTurn_stalled (s : State) (r : List Turn) (n : Nat) : (s.takeTurn r n).stalled = s.stalled := rfl
@[simp] theorem State.takeTurn_fg (s : State) (r : List Turn) (n : Nat) : (s.takeTurn r n).fg = s.fg := rfl
@[simp] theorem State.takeTurn_txi (s : State) (r : List Turn) (n : Nat) : (s.takeTurn r n).txi = s.txi := rfl
@[simp] theorem State.takeTurn_rxi (s : State) (r : List Turn) (n : Nat) : (s.takeTurn r n).rxi = s.rxi := rfl
@[simp] theorem State.takeTurn_rxiSw (s : State) (r : List Turn) (n : Nat) : (s.takeTurn r n).rxiSw = s.rxiSw := rfl
@[simp] theorem State.takeTurn_call (s : State) (r : List Turn) (n : Nat) : (s.takeTurn r n).call = s.call := rfl
@[simp] theorem State.takeTurn_boot (s : State) (r : List Turn) (n : Nat) : (s.takeTurn r n).boot = s.boot := rfl
@[simp] theorem State.takeTurn_per (s : State) (r : List Turn) (n : Nat) : (s.takeTurn r n).per = s.per := rfl
@[simp] theorem State.takeTurn_oracle (s : State) (r : List Turn) (n : Nat) : (s.takeTurn r n).oracle = s.oracle := rfl
@[simp] theorem State.takeTurn_draws (s : State) (r : List Turn) (n : Nat) : (s.takeTurn r n).draws = s.draws := rfl
@[simp] theorem State.takeTurn_clrOrder (s : State) (r : List Turn) (n : Nat) : (s.takeTurn r n).clrOrder = s.clrOrder := rfl
@[simp] theorem State.takeTurn_markers (s : State) (r : List Turn) (n : Nat) : (s.takeTurn r n).markers = s.markers := rfl
@[simp] theorem State.takeTurn_trace (s : State) (r : List Turn) (n : Nat) : (s.takeTurn r n).trace = s.trace := rfl
@[simp] theorem State.takeTurn_cmds (s : State) (r : List Turn) (n : Nat) : (s.takeTurn r n).cmds = s.cmds := rfl
@[simp] theorem State.takeTurn_turns (s : State) (r : List Turn) (n : Nat) : (s.takeTurn r n).turns = r := rfl
@[simp] theorem State.takeTurn_grant (s : State) (r : List Turn) (n : Nat) : (s.takeTurn r n).grant = n := rfl

/-! ### `State.takeCommand` -/

@[simp] theorem State.takeCommand_cfg (s : State) (r : List Word16) : (s.takeCommand r).cfg = s.cfg := rfl
@[simp] theorem State.takeCommand_tx (s : State) (r : List Word16) : (s.takeCommand r).tx = s.tx := rfl
@[simp] theorem State.takeCommand_rx (s : State) (r : List Word16) : (s.takeCommand r).rx = s.rx := rfl
@[simp] theorem State.takeCommand_stalled (s : State) (r : List Word16) : (s.takeCommand r).stalled = s.stalled := rfl
@[simp] theorem State.takeCommand_fg (s : State) (r : List Word16) : (s.takeCommand r).fg = s.fg := rfl
@[simp] theorem State.takeCommand_txi (s : State) (r : List Word16) : (s.takeCommand r).txi = s.txi := rfl
@[simp] theorem State.takeCommand_rxi (s : State) (r : List Word16) : (s.takeCommand r).rxi = s.rxi := rfl
@[simp] theorem State.takeCommand_rxiSw (s : State) (r : List Word16) : (s.takeCommand r).rxiSw = s.rxiSw := rfl
@[simp] theorem State.takeCommand_call (s : State) (r : List Word16) : (s.takeCommand r).call = s.call := rfl
@[simp] theorem State.takeCommand_boot (s : State) (r : List Word16) : (s.takeCommand r).boot = s.boot := rfl
@[simp] theorem State.takeCommand_per (s : State) (r : List Word16) : (s.takeCommand r).per = s.per := rfl
@[simp] theorem State.takeCommand_oracle (s : State) (r : List Word16) : (s.takeCommand r).oracle = s.oracle := rfl
@[simp] theorem State.takeCommand_draws (s : State) (r : List Word16) : (s.takeCommand r).draws = s.draws := rfl
@[simp] theorem State.takeCommand_clrOrder (s : State) (r : List Word16) : (s.takeCommand r).clrOrder = s.clrOrder := rfl
@[simp] theorem State.takeCommand_markers (s : State) (r : List Word16) : (s.takeCommand r).markers = s.markers := rfl
@[simp] theorem State.takeCommand_trace (s : State) (r : List Word16) : (s.takeCommand r).trace = s.trace := rfl
@[simp] theorem State.takeCommand_cmds (s : State) (r : List Word16) : (s.takeCommand r).cmds = r := rfl
@[simp] theorem State.takeCommand_turns (s : State) (r : List Word16) : (s.takeCommand r).turns = s.turns := rfl
@[simp] theorem State.takeCommand_grant (s : State) (r : List Word16) : (s.takeCommand r).grant = s.grant := rfl

/-! ### `State.popClrOrder` -/

@[simp] theorem State.popClrOrder_cfg (s : State) : (s.popClrOrder).cfg = s.cfg := rfl
@[simp] theorem State.popClrOrder_tx (s : State) : (s.popClrOrder).tx = s.tx := rfl
@[simp] theorem State.popClrOrder_rx (s : State) : (s.popClrOrder).rx = s.rx := rfl
@[simp] theorem State.popClrOrder_stalled (s : State) : (s.popClrOrder).stalled = s.stalled := rfl
@[simp] theorem State.popClrOrder_fg (s : State) : (s.popClrOrder).fg = s.fg := rfl
@[simp] theorem State.popClrOrder_txi (s : State) : (s.popClrOrder).txi = s.txi := rfl
@[simp] theorem State.popClrOrder_rxi (s : State) : (s.popClrOrder).rxi = s.rxi := rfl
@[simp] theorem State.popClrOrder_rxiSw (s : State) : (s.popClrOrder).rxiSw = s.rxiSw := rfl
@[simp] theorem State.popClrOrder_call (s : State) : (s.popClrOrder).call = s.call := rfl
@[simp] theorem State.popClrOrder_boot (s : State) : (s.popClrOrder).boot = s.boot := rfl
@[simp] theorem State.popClrOrder_per (s : State) : (s.popClrOrder).per = s.per := rfl
@[simp] theorem State.popClrOrder_oracle (s : State) : (s.popClrOrder).oracle = s.oracle := rfl
@[simp] theorem State.popClrOrder_draws (s : State) : (s.popClrOrder).draws = s.draws := rfl
@[simp] theorem State.popClrOrder_clrOrder (s : State) : (s.popClrOrder).clrOrder = s.clrOrder.tail := rfl
@[simp] theorem State.popClrOrder_markers (s : State) : (s.popClrOrder).markers = s.markers := rfl
@[simp] theorem State.popClrOrder_trace (s : State) : (s.popClrOrder).trace = s.trace := rfl
@[simp] theorem State.popClrOrder_cmds (s : State) : (s.popClrOrder).cmds = s.cmds := rfl
@[simp] theorem State.popClrOrder_turns (s : State) : (s.popClrOrder).turns = s.turns := rfl
@[simp] theorem State.popClrOrder_grant (s : State) : (s.popClrOrder).grant = s.grant := rfl

/-! ### `State.setFifo` -/

@[simp] theorem State.setFifo_cfg (s : State) (f : Sel) (q : Fifo) : (s.setFifo f q).cfg = s.cfg := by cases f <;> rfl
@[simp] theorem State.setFifo_stalled (s : State) (f : Sel) (q : Fifo) : (s.setFifo f q).stalled = s.stalled := by cases f <;> rfl
@[simp] theorem State.setFifo_fg (s : State) (f : Sel) (q : Fifo) : (s.setFifo f q).fg = s.fg := by cases f <;> rfl
@[simp] theorem State.setFifo_txi (s : State) (f : Sel) (q : Fifo) : (s.setFifo f q).txi = s.txi := by cases f <;> rfl
@[simp] theorem State.setFifo_rxi (s : State) (f : Sel) (q : Fifo) : (s.setFifo f q).rxi = s.rxi := by cases f <;> rfl
@[simp] theorem State.setFifo_rxiSw (s : State) (f : Sel) (q : Fifo) : (s.setFifo f q).rxiSw = s.rxiSw := by cases f <;> rfl
@[simp] theorem State.setFifo_call (s : State) (f : Sel) (q : Fifo) : (s.setFifo f q).call = s.call := by cases f <;> rfl
@[simp] theorem State.setFifo_boot (s : State) (f : Sel) (q : Fifo) : (s.setFifo f q).boot = s.boot := by cases f <;> rfl
@[simp] theorem State.setFifo_per (s : State) (f : Sel) (q : Fifo) : (s.setFifo f q).per = s.per := by cases f <;> rfl
@[simp] theorem State.setFifo_oracle (s : State) (f : Sel) (q : Fifo) : (s.setFifo f q).oracle = s.oracle := by cases f <;> rfl
@[simp] theorem State.setFifo_draws (s : State) (f : Sel) (q : Fifo) : (s.setFifo f q).draws = s.draws := by cases f <;> rfl
@[simp] theorem State.setFifo_clrOrder (s : State) (f : Sel) (q : Fifo) : (s.setFifo f q).clrOrder = s.clrOrder := by cases f <;> rfl
@[simp] theorem State.setFifo_markers (s : State) (f : Sel) (q : Fifo) : (s.setFifo f q).markers = s.markers := by cases f <;> rfl
@[simp] theorem State.setFifo_trace (s : State) (f : Sel) (q : Fifo) : (s.setFifo f q).trace = s.trace := by cases f <;> rfl
@[simp] theorem State.setFifo_cmds (s : State) (f : Sel) (q : Fifo) : (s.setFifo f q).cmds = s.cmds := by cases f <;> rfl
@[simp] theorem State.setFifo_turns (s : State) (f : Sel) (q : Fifo) : (s.setFifo f q).turns = s.turns := by cases f <;> rfl
@[simp] theorem State.setFifo_grant (s : State) (f : Sel) (q : Fifo) : (s.setFifo f q).grant = s.grant := by cases f <;> rfl

/-! ### `State.setCtx` -/

@[simp] theorem State.setCtx_cfg (s : State) (w : Who) (c : Ctx) : (s.setCtx w c).cfg = s.cfg := by cases w <;> rfl
@[simp] theorem State.setCtx_tx (s : State) (w : Who) (c : Ctx) : (s.setCtx w c).tx = s.tx := by cases w <;> rfl
@[simp] theorem State.setCtx_rx (s : State) (w : Who) (c : Ctx) : (s.setCtx w c).rx = s.rx := by cases w <;> rfl
@[simp] theorem State.setCtx_stalled (s : State) (w : Who) (c : Ctx) : (s.setCtx w c).stalled = s.stalled := by cases w <;> rfl
@[simp] theorem State.setCtx_rxiSw (s : State) (w : Who) (c : Ctx) : (s.setCtx w c).rxiSw = s.rxiSw := by cases w <;> rfl
@[simp] theorem State.setCtx_boot (s : State) (w : Who) (c : Ctx) : (s.setCtx w c).boot = s.boot := by cases w <;> rfl
@[simp] theorem State.setCtx_per (s : State) (w : Who) (c : Ctx) : (s.setCtx w c).per = s.per := by cases w <;> rfl
@[simp] theorem State.setCtx_oracle (s : State) (w : Who) (c : Ctx) : (s.setCtx w c).oracle = s.oracle := by cases w <;> rfl
@[simp] theorem State.setCtx_draws (s : State) (w : Who) (c : Ctx) : (s.setCtx w c).draws = s.draws := by cases w <;> rfl
@[simp] theorem State.setCtx_clrOrder (s : State) (w : Who) (c : Ctx) : (s.setCtx w c).clrOrder = s.clrOrder := by cases w <;> rfl
@[simp] theorem State.setCtx_markers (s : State) (w : Who) (c : Ctx) : (s.setCtx w c).markers = s.markers := by cases w <;> rfl
@[simp] theorem State.setCtx_trace (s : State) (w : Who) (c : Ctx) : (s.setCtx w c).trace = s.trace := by cases w <;> rfl
@[simp] theorem State.setCtx_cmds (s : State) (w : Who) (c : Ctx) : (s.setCtx w c).cmds = s.cmds := by cases w <;> rfl
@[simp] theorem State.setCtx_turns (s : State) (w : Who) (c : Ctx) : (s.setCtx w c).turns = s.turns := by cases w <;> rfl
@[simp] theorem State.setCtx_grant (s : State) (w : Who) (c : Ctx) : (s.setCtx w c).grant = s.grant := by cases w <;> rfl

/-! ### `State.mark` -/

@[simp] theorem State.mark_cfg (s : State) (m : Marker) : (s.mark m).cfg = s.cfg := by unfold State.mark; split <;> rfl
@[simp] theorem State.mark_tx (s : State) (m : Marker) : (s.mark m).tx = s.tx := by unfold State.mark; split <;> rfl
@[simp] theorem State.mark_rx (s : State) (m : Marker) : (s.mark m).rx = s.rx := by unfold State.mark; split <;> rfl
@[simp] theorem State.mark_stalled (s : State) (m : Marker) : (s.mark m).stalled = s.stalled := by unfold State.mark; split <;> rfl
@[simp] theorem State.mark_fg (s : State) (m : Marker) : (s.mark m).fg = s.fg := by unfold State.mark; split <;> rfl
@[simp] theorem State.mark_txi (s : State) (m : Marker) : (s.mark m).txi = s.txi := by unfold State.mark; split <;> rfl
@[simp] theorem State.mark_rxi (s : State) (m : Marker) : (s.mark m).rxi = s.rxi := by unfold State.mark; split <;> rfl
@[simp] theorem State.mark_rxiSw (s : State) (m : Marker) : (s.mark m).rxiSw = s.rxiSw := by unfold State.mark; split <;> rfl
@[simp] theorem State.mark_call (s : State) (m : Marker) : (s.mark m).call = s.call := by unfold State.mark; split <;> rfl
@[simp] theorem State.mark_boot (s : State) (m : Marker) : (s.mark m).boot = s.boot := by unfold State.mark; split <;> rfl
@[simp] theorem State.mark_per (s : State) (m : Marker) : (s.mark m).per = s.per := by unfold State.mark; split <;> rfl
@[simp] theorem State.mark_oracle (s : State) (m : Marker) : (s.mark m).oracle = s.oracle := by unfold State.mark; split <;> rfl
@[simp] theorem State.mark_draws (s : State) (m : Marker) : (s.mark m).draws = s.draws := by unfold State.mark; split <;> rfl
@[simp] theorem State.mark_clrOrder (s : State) (m : Marker) : (s.mark m).clrOrder = s.clrOrder := by unfold State.mark; split <;> rfl
@[simp] theorem State.mark_trace (s : State) (m : Marker) : (s.mark m).trace = s.trace := by unfold State.mark; split <;> rfl
@[simp] theorem State.mark_cmds (s : State) (m : Marker) : (s.mark m).cmds = s.cmds := by unfold State.mark; split <;> rfl
@[simp] theorem State.mark_turns (s : State) (m : Marker) : (s.mark m).turns = s.turns := by unfold State.mark; split <;> rfl
@[simp] theorem State.mark_grant (s : State) (m : Marker) : (s.mark m).grant = s.grant := by unfold State.mark; split <;> rfl

/-! ### The FIFO and context views -/

@[simp] theorem State.fifo_tx (s : State) : s.fifo .tx = s.tx := rfl
@[simp] theorem State.fifo_rx (s : State) : s.fifo .rx = s.rx := rfl
@[simp] theorem State.cap_tx (s : State) : s.cap .tx = s.cfg.capTx := rfl
@[simp] theorem State.cap_rx (s : State) : s.cap .rx = s.cfg.capRx := rfl
@[simp] theorem State.setFifo_tx_tx (s : State) (q : Fifo) : (s.setFifo .tx q).tx = q := rfl
@[simp] theorem State.setFifo_tx_rx (s : State) (q : Fifo) : (s.setFifo .tx q).rx = s.rx := rfl
@[simp] theorem State.setFifo_rx_rx (s : State) (q : Fifo) : (s.setFifo .rx q).rx = q := rfl
@[simp] theorem State.setFifo_rx_tx (s : State) (q : Fifo) : (s.setFifo .rx q).tx = s.tx := rfl
@[simp] theorem State.fifo_setFifo_same (s : State) (f : Sel) (q : Fifo) : (s.setFifo f q).fifo f = q := by
  cases f <;> rfl
theorem State.fifo_setFifo_other (s : State) {f g : Sel} (q : Fifo) (h : g ≠ f) :
    (s.setFifo f q).fifo g = s.fifo g := by
  cases f <;> cases g <;> first | rfl | exact absurd rfl h
@[simp] theorem State.fifo_setCtx (s : State) (w : Who) (c : Ctx) (f : Sel) : (s.setCtx w c).fifo f = s.fifo f := by
  cases w <;> cases f <;> rfl
@[simp] theorem State.ctx_fg (s : State) : s.ctx .fg = s.fg := rfl
@[simp] theorem State.ctx_txi (s : State) : s.ctx .txi = s.txi := rfl
@[simp] theorem State.ctx_rxi (s : State) : s.ctx .rxi = s.rxi := rfl
@[simp] theorem State.ctx_call (s : State) : s.ctx .call = s.call := rfl
@[simp] theorem State.setCtx_fg_fg (s : State) (c : Ctx) : (s.setCtx .fg c).fg = c := rfl
@[simp] theorem State.setCtx_txi_txi (s : State) (c : Ctx) : (s.setCtx .txi c).txi = c := rfl
@[simp] theorem State.setCtx_rxi_rxi (s : State) (c : Ctx) : (s.setCtx .rxi c).rxi = c := rfl
@[simp] theorem State.setCtx_call_call (s : State) (c : Ctx) : (s.setCtx .call c).call = c := rfl
@[simp] theorem State.setCtx_fg_txi (s : State) (c : Ctx) : (s.setCtx .fg c).txi = s.txi := rfl
@[simp] theorem State.setCtx_fg_rxi (s : State) (c : Ctx) : (s.setCtx .fg c).rxi = s.rxi := rfl
@[simp] theorem State.setCtx_fg_call (s : State) (c : Ctx) : (s.setCtx .fg c).call = s.call := rfl
@[simp] theorem State.setCtx_txi_fg (s : State) (c : Ctx) : (s.setCtx .txi c).fg = s.fg := rfl
@[simp] theorem State.setCtx_txi_rxi (s : State) (c : Ctx) : (s.setCtx .txi c).rxi = s.rxi := rfl
@[simp] theorem State.setCtx_txi_call (s : State) (c : Ctx) : (s.setCtx .txi c).call = s.call := rfl
@[simp] theorem State.setCtx_rxi_fg (s : State) (c : Ctx) : (s.setCtx .rxi c).fg = s.fg := rfl
@[simp] theorem State.setCtx_rxi_txi (s : State) (c : Ctx) : (s.setCtx .rxi c).txi = s.txi := rfl
@[simp] theorem State.setCtx_rxi_call (s : State) (c : Ctx) : (s.setCtx .rxi c).call = s.call := rfl
@[simp] theorem State.setCtx_call_fg (s : State) (c : Ctx) : (s.setCtx .call c).fg = s.fg := rfl
@[simp] theorem State.setCtx_call_txi (s : State) (c : Ctx) : (s.setCtx .call c).txi = s.txi := rfl
@[simp] theorem State.setCtx_call_rxi (s : State) (c : Ctx) : (s.setCtx .call c).rxi = s.rxi := rfl
@[simp] theorem State.ctx_setCtx_same (s : State) (w : Who) (c : Ctx) : (s.setCtx w c).ctx w = c := by
  cases w <;> rfl
theorem State.ctx_setCtx_other (s : State) {w u : Who} (c : Ctx) (h : u ≠ w) :
    (s.setCtx w c).ctx u = s.ctx u := by
  cases w <;> cases u <;> first | rfl | exact absurd rfl h
@[simp] theorem State.setCtx_setCtx (s : State) (w : Who) (c d : Ctx) : (s.setCtx w c).setCtx w d = s.setCtx w d := by
  cases w <;> rfl
@[simp] theorem State.ctx_setFifo (s : State) (f : Sel) (q : Fifo) (w : Who) : (s.setFifo f q).ctx w = s.ctx w := by
  cases f <;> cases w <;> rfl

@[simp] theorem State.fifo_emit (s : State) (e : Event) (f : Sel) : (s.emit e).fifo f = s.fifo f := by cases f <;> simp [State.fifo]
@[simp] theorem State.ctx_emit (s : State) (e : Event) (u : Who) : (s.emit e).ctx u = s.ctx u := by cases u <;> simp [State.ctx]
@[simp] theorem State.fifo_setStalled (s : State) (v : Bool) (f : Sel) : (s.setStalled v).fifo f = s.fifo f := by cases f <;> simp [State.fifo]
@[simp] theorem State.ctx_setStalled (s : State) (v : Bool) (u : Who) : (s.setStalled v).ctx u = s.ctx u := by cases u <;> simp [State.ctx]
@[simp] theorem State.fifo_setPer (s : State) (p : Per) (f : Sel) : (s.setPer p).fifo f = s.fifo f := by cases f <;> simp [State.fifo]
@[simp] theorem State.ctx_setPer (s : State) (p : Per) (u : Who) : (s.setPer p).ctx u = s.ctx u := by cases u <;> simp [State.ctx]
@[simp] theorem State.fifo_bumpDraws (s : State) (f : Sel) : (s.bumpDraws).fifo f = s.fifo f := by cases f <;> simp [State.fifo]
@[simp] theorem State.ctx_bumpDraws (s : State) (u : Who) : (s.bumpDraws).ctx u = s.ctx u := by cases u <;> simp [State.ctx]
@[simp] theorem State.fifo_setRxiSw (s : State) (w : StatusWord) (f : Sel) : (s.setRxiSw w).fifo f = s.fifo f := by cases f <;> simp [State.fifo]
@[simp] theorem State.ctx_setRxiSw (s : State) (w : StatusWord) (u : Who) : (s.setRxiSw w).ctx u = s.ctx u := by cases u <;> simp [State.ctx]
@[simp] theorem State.fifo_setBoot (s : State) (b : BootPhase) (f : Sel) : (s.setBoot b).fifo f = s.fifo f := by cases f <;> simp [State.fifo]
@[simp] theorem State.ctx_setBoot (s : State) (b : BootPhase) (u : Who) : (s.setBoot b).ctx u = s.ctx u := by cases u <;> simp [State.ctx]
@[simp] theorem State.fifo_takeTurn (s : State) (r : List Turn) (n : Nat) (f : Sel) : (s.takeTurn r n).fifo f = s.fifo f := by cases f <;> simp [State.fifo]
@[simp] theorem State.ctx_takeTurn (s : State) (r : List Turn) (n : Nat) (u : Who) : (s.takeTurn r n).ctx u = s.ctx u := by cases u <;> simp [State.ctx]
@[simp] theorem State.fifo_takeCommand (s : State) (r : List Word16) (f : Sel) : (s.takeCommand r).fifo f = s.fifo f := by cases f <;> simp [State.fifo]
@[simp] theorem State.ctx_takeCommand (s : State) (r : List Word16) (u : Who) : (s.takeCommand r).ctx u = s.ctx u := by cases u <;> simp [State.ctx]
@[simp] theorem State.fifo_popClrOrder (s : State) (f : Sel) : (s.popClrOrder).fifo f = s.fifo f := by cases f <;> simp [State.fifo]
@[simp] theorem State.ctx_popClrOrder (s : State) (u : Who) : (s.popClrOrder).ctx u = s.ctx u := by cases u <;> simp [State.ctx]
@[simp] theorem State.fifo_mark (s : State) (m : Marker) (f : Sel) : (s.mark m).fifo f = s.fifo f := by cases f <;> simp [State.fifo]
@[simp] theorem State.ctx_mark (s : State) (m : Marker) (u : Who) : (s.mark m).ctx u = s.ctx u := by cases u <;> simp [State.ctx]
@[simp] theorem State.cap_emit (s : State) (e : Event) (g : Sel) : (s.emit e).cap g = s.cap g := by simp [State.cap]
@[simp] theorem State.mode_emit (s : State) (e : Event) (g : Sel) : (s.emit e).mode g = s.mode g := by simp [State.mode]
@[simp] theorem State.cap_setStalled (s : State) (v : Bool) (g : Sel) : (s.setStalled v).cap g = s.cap g := by simp [State.cap]
@[simp] theorem State.mode_setStalled (s : State) (v : Bool) (g : Sel) : (s.setStalled v).mode g = s.mode g := by simp [State.mode]
@[simp] theorem State.cap_setPer (s : State) (p : Per) (g : Sel) : (s.setPer p).cap g = s.cap g := by simp [State.cap]
@[simp] theorem State.mode_setPer (s : State) (p : Per) (g : Sel) : (s.setPer p).mode g = s.mode g := by simp [State.mode]
@[simp] theorem State.cap_bumpDraws (s : State) (g : Sel) : (s.bumpDraws).cap g = s.cap g := by simp [State.cap]
@[simp] theorem State.mode_bumpDraws (s : State) (g : Sel) : (s.bumpDraws).mode g = s.mode g := by simp [State.mode]
@[simp] theorem State.cap_setRxiSw (s : State) (w : StatusWord) (g : Sel) : (s.setRxiSw w).cap g = s.cap g := by simp [State.cap]
@[simp] theorem State.mode_setRxiSw (s : State) (w : StatusWord) (g : Sel) : (s.setRxiSw w).mode g = s.mode g := by simp [State.mode]
@[simp] theorem State.cap_setBoot (s : State) (b : BootPhase) (g : Sel) : (s.setBoot b).cap g = s.cap g := by simp [State.cap]
@[simp] theorem State.mode_setBoot (s : State) (b : BootPhase) (g : Sel) : (s.setBoot b).mode g = s.mode g := by simp [State.mode]
@[simp] theorem State.cap_takeTurn (s : State) (r : List Turn) (n : Nat) (g : Sel) : (s.takeTurn r n).cap g = s.cap g := by simp [State.cap]
@[simp] theorem State.mode_takeTurn (s : State) (r : List Turn) (n : Nat) (g : Sel) : (s.takeTurn r n).mode g = s.mode g := by simp [State.mode]
@[simp] theorem State.cap_takeCommand (s : State) (r : List Word16) (g : Sel) : (s.takeCommand r).cap g = s.cap g := by simp [State.cap]
@[simp] theorem State.mode_takeCommand (s : State) (r : List Word16) (g : Sel) : (s.takeCommand r).mode g = s.mode g := by simp [State.mode]
@[simp] theorem State.cap_popClrOrder (s : State) (g : Sel) : (s.popClrOrder).cap g = s.cap g := by simp [State.cap]
@[simp] theorem State.mode_popClrOrder (s : State) (g : Sel) : (s.popClrOrder).mode g = s.mode g := by simp [State.mode]
@[simp] theorem State.cap_setFifo (s : State) (f : Sel) (q : Fifo) (g : Sel) : (s.setFifo f q).cap g = s.cap g := by simp [State.cap]
@[simp] theorem State.mode_setFifo (s : State) (f : Sel) (q : Fifo) (g : Sel) : (s.setFifo f q).mode g = s.mode g := by simp [State.mode]
@[simp] theorem State.cap_setCtx (s : State) (w : Who) (c : Ctx) (g : Sel) : (s.setCtx w c).cap g = s.cap g := by simp [State.cap]
@[simp] theorem State.mode_setCtx (s : State) (w : Who) (c : Ctx) (g : Sel) : (s.setCtx w c).mode g = s.mode g := by simp [State.mode]
@[simp] theorem State.cap_mark (s : State) (m : Marker) (g : Sel) : (s.mark m).cap g = s.cap g := by simp [State.cap]
@[simp] theorem State.mode_mark (s : State) (m : Marker) (g : Sel) : (s.mark m).mode g = s.mode g := by simp [State.mode]
@[simp] theorem State.occ_emit (s : State) (e : Event) (g : Sel) : (s.emit e).occ g = s.occ g := by simp [State.occ]
@[simp] theorem State.occ_setStalled (s : State) (v : Bool) (g : Sel) : (s.setStalled v).occ g = s.occ g := by simp [State.occ]
@[simp] theorem State.occ_setPer (s : State) (p : Per) (g : Sel) : (s.setPer p).occ g = s.occ g := by simp [State.occ]
@[simp] theorem State.occ_bumpDraws (s : State) (g : Sel) : (s.bumpDraws).occ g = s.occ g := by simp [State.occ]
@[simp] theorem State.occ_setRxiSw (s : State) (w : StatusWord) (g : Sel) : (s.setRxiSw w).occ g = s.occ g := by simp [State.occ]
@[simp] theorem State.occ_setBoot (s : State) (b : BootPhase) (g : Sel) : (s.setBoot b).occ g = s.occ g := by simp [State.occ]
@[simp] theorem State.occ_takeTurn (s : State) (r : List Turn) (n : Nat) (g : Sel) : (s.takeTurn r n).occ g = s.occ g := by simp [State.occ]
@[simp] theorem State.occ_takeCommand (s : State) (r : List Word16) (g : Sel) : (s.takeCommand r).occ g = s.occ g := by simp [State.occ]
@[simp] theorem State.occ_popClrOrder (s : State) (g : Sel) : (s.popClrOrder).occ g = s.occ g := by simp [State.occ]
@[simp] theorem State.occ_setCtx (s : State) (w : Who) (c : Ctx) (g : Sel) : (s.setCtx w c).occ g = s.occ g := by simp [State.occ]
@[simp] theorem State.occ_mark (s : State) (m : Marker) (g : Sel) : (s.mark m).occ g = s.occ g := by simp [State.occ]
@[simp] theorem State.handlerActive_emit (s : State) (e : Event) : (s.emit e).handlerActive = s.handlerActive := by simp [State.handlerActive]
@[simp] theorem State.issuer_emit (s : State) (e : Event) : (s.emit e).issuer = s.issuer := by simp [State.issuer]
@[simp] theorem State.activeHandler_emit (s : State) (e : Event) : (s.emit e).activeHandler = s.activeHandler := by simp [State.activeHandler]
@[simp] theorem State.agentOf_emit (s : State) (e : Event) (u : Who) : (s.emit e).agentOf u = s.agentOf u := by cases u <;> simp [State.agentOf]
@[simp] theorem State.handlerActive_setStalled (s : State) (v : Bool) : (s.setStalled v).handlerActive = s.handlerActive := by simp [State.handlerActive]
@[simp] theorem State.issuer_setStalled (s : State) (v : Bool) : (s.setStalled v).issuer = s.issuer := by simp [State.issuer]
@[simp] theorem State.activeHandler_setStalled (s : State) (v : Bool) : (s.setStalled v).activeHandler = s.activeHandler := by simp [State.activeHandler]
@[simp] theorem State.agentOf_setStalled (s : State) (v : Bool) (u : Who) : (s.setStalled v).agentOf u = s.agentOf u := by cases u <;> simp [State.agentOf]
@[simp] theorem State.handlerActive_setPer (s : State) (p : Per) : (s.setPer p).handlerActive = s.handlerActive := by simp [State.handlerActive]
@[simp] theorem State.issuer_setPer (s : State) (p : Per) : (s.setPer p).issuer = s.issuer := by simp [State.issuer]
@[simp] theorem State.activeHandler_setPer (s : State) (p : Per) : (s.setPer p).activeHandler = s.activeHandler := by simp [State.activeHandler]
@[simp] theorem State.agentOf_setPer (s : State) (p : Per) (u : Who) : (s.setPer p).agentOf u = s.agentOf u := by cases u <;> simp [State.agentOf]
@[simp] theorem State.handlerActive_bumpDraws (s : State) : (s.bumpDraws).handlerActive = s.handlerActive := by simp [State.handlerActive]
@[simp] theorem State.issuer_bumpDraws (s : State) : (s.bumpDraws).issuer = s.issuer := by simp [State.issuer]
@[simp] theorem State.activeHandler_bumpDraws (s : State) : (s.bumpDraws).activeHandler = s.activeHandler := by simp [State.activeHandler]
@[simp] theorem State.agentOf_bumpDraws (s : State) (u : Who) : (s.bumpDraws).agentOf u = s.agentOf u := by cases u <;> simp [State.agentOf]
@[simp] theorem State.handlerActive_setRxiSw (s : State) (w : StatusWord) : (s.setRxiSw w).handlerActive = s.handlerActive := by simp [State.handlerActive]
@[simp] theorem State.issuer_setRxiSw (s : State) (w : StatusWord) : (s.setRxiSw w).issuer = s.issuer := by simp [State.issuer]
@[simp] theorem State.activeHandler_setRxiSw (s : State) (w : StatusWord) : (s.setRxiSw w).activeHandler = s.activeHandler := by simp [State.activeHandler]
@[simp] theorem State.agentOf_setRxiSw (s : State) (w : StatusWord) (u : Who) : (s.setRxiSw w).agentOf u = s.agentOf u := by cases u <;> simp [State.agentOf]
@[simp] theorem State.handlerActive_setBoot (s : State) (b : BootPhase) : (s.setBoot b).handlerActive = s.handlerActive := by simp [State.handlerActive]
@[simp] theorem State.issuer_setBoot (s : State) (b : BootPhase) : (s.setBoot b).issuer = s.issuer := by simp [State.issuer]
@[simp] theorem State.activeHandler_setBoot (s : State) (b : BootPhase) : (s.setBoot b).activeHandler = s.activeHandler := by simp [State.activeHandler]
@[simp] theorem State.agentOf_setBoot (s : State) (b : BootPhase) (u : Who) : (s.setBoot b).agentOf u = s.agentOf u := by cases u <;> simp [State.agentOf]
@[simp] theorem State.handlerActive_takeTurn (s : State) (r : List Turn) (n : Nat) : (s.takeTurn r n).handlerActive = s.handlerActive := by simp [State.handlerActive]
@[simp] theorem State.issuer_takeTurn (s : State) (r : List Turn) (n : Nat) : (s.takeTurn r n).issuer = s.issuer := by simp [State.issuer]
@[simp] theorem State.activeHandler_takeTurn (s : State) (r : List Turn) (n : Nat) : (s.takeTurn r n).activeHandler = s.activeHandler := by simp [State.activeHandler]
@[simp] theorem State.agentOf_takeTurn (s : State) (r : List Turn) (n : Nat) (u : Who) : (s.takeTurn r n).agentOf u = s.agentOf u := by cases u <;> simp [State.agentOf]
@[simp] theorem State.handlerActive_takeCommand (s : State) (r : List Word16) : (s.takeCommand r).handlerActive = s.handlerActive := by simp [State.handlerActive]
@[simp] theorem State.issuer_takeCommand (s : State) (r : List Word16) : (s.takeCommand r).issuer = s.issuer := by simp [State.issuer]
@[simp] theorem State.activeHandler_takeCommand (s : State) (r : List Word16) : (s.takeCommand r).activeHandler = s.activeHandler := by simp [State.activeHandler]
@[simp] theorem State.agentOf_takeCommand (s : State) (r : List Word16) (u : Who) : (s.takeCommand r).agentOf u = s.agentOf u := by cases u <;> simp [State.agentOf]
@[simp] theorem State.handlerActive_popClrOrder (s : State) : (s.popClrOrder).handlerActive = s.handlerActive := by simp [State.handlerActive]
@[simp] theorem State.issuer_popClrOrder (s : State) : (s.popClrOrder).issuer = s.issuer := by simp [State.issuer]
@[simp] theorem State.activeHandler_popClrOrder (s : State) : (s.popClrOrder).activeHandler = s.activeHandler := by simp [State.activeHandler]
@[simp] theorem State.agentOf_popClrOrder (s : State) (u : Who) : (s.popClrOrder).agentOf u = s.agentOf u := by cases u <;> simp [State.agentOf]
@[simp] theorem State.handlerActive_setFifo (s : State) (f : Sel) (q : Fifo) : (s.setFifo f q).handlerActive = s.handlerActive := by simp [State.handlerActive]
@[simp] theorem State.issuer_setFifo (s : State) (f : Sel) (q : Fifo) : (s.setFifo f q).issuer = s.issuer := by simp [State.issuer]
@[simp] theorem State.activeHandler_setFifo (s : State) (f : Sel) (q : Fifo) : (s.setFifo f q).activeHandler = s.activeHandler := by simp [State.activeHandler]
@[simp] theorem State.agentOf_setFifo (s : State) (f : Sel) (q : Fifo) (u : Who) : (s.setFifo f q).agentOf u = s.agentOf u := by cases u <;> simp [State.agentOf]
@[simp] theorem State.handlerActive_mark (s : State) (m : Marker) : (s.mark m).handlerActive = s.handlerActive := by simp [State.handlerActive]
@[simp] theorem State.issuer_mark (s : State) (m : Marker) : (s.mark m).issuer = s.issuer := by simp [State.issuer]
@[simp] theorem State.activeHandler_mark (s : State) (m : Marker) : (s.mark m).activeHandler = s.activeHandler := by simp [State.activeHandler]
@[simp] theorem State.agentOf_mark (s : State) (m : Marker) (u : Who) : (s.mark m).agentOf u = s.agentOf u := by cases u <;> simp [State.agentOf]
@[simp] theorem State.handlerActive_setCtx_fg (s : State) (c : Ctx) : (s.setCtx .fg c).handlerActive = s.handlerActive := by simp [State.handlerActive]
@[simp] theorem State.issuer_setCtx_fg (s : State) (c : Ctx) : (s.setCtx .fg c).issuer = s.issuer := by simp [State.issuer]
@[simp] theorem State.activeHandler_setCtx_fg (s : State) (c : Ctx) : (s.setCtx .fg c).activeHandler = s.activeHandler := by simp [State.activeHandler]
@[simp] theorem State.agentOf_setCtx_fg (s : State) (c : Ctx) (u : Who) : (s.setCtx .fg c).agentOf u = s.agentOf u := by cases u <;> simp [State.agentOf]
@[simp] theorem State.handlerActive_setCtx_call (s : State) (c : Ctx) : (s.setCtx .call c).handlerActive = s.handlerActive := by simp [State.handlerActive]
@[simp] theorem State.issuer_setCtx_call (s : State) (c : Ctx) : (s.setCtx .call c).issuer = s.issuer := by simp [State.issuer]
@[simp] theorem State.activeHandler_setCtx_call (s : State) (c : Ctx) : (s.setCtx .call c).activeHandler = s.activeHandler := by simp [State.activeHandler]
@[simp] theorem State.agentOf_setCtx_call (s : State) (c : Ctx) (u : Who) : (s.setCtx .call c).agentOf u = s.agentOf u := by cases u <;> simp [State.agentOf]

/-- Marking keeps every marker and adds the one named. -/
theorem State.mem_markers_mark (s : State) (m k : Marker) : k ∈ (s.mark m).markers ↔ k ∈ s.markers ∨ k = m := by
  unfold State.mark
  split
  · constructor
    · exact Or.inl
    · rintro (h | rfl)
      · exact h
      · assumption
  · simp

end Sys2Proof.Machine
end

