-- ==== Sys2Proof/Laws/Ops.lean ====
section
/-! SUPPORT. What each shared operation of Machine/Ops.lean leaves alone, field by field; the laws of the slot arrays; and
one lemma for the dequeue's second action that says everything it can do. -/

namespace Sys2Proof.Machine

/-! ### Slot arrays -/

/-- Reading the slot just written gives the element written. -/
@[simp] theorem memRead_memWrite_same (m : Memory) (a : Nat) (v : Byte) : memRead (memWrite m a v) a = some v := by
  induction m with
  | nil => simp [memWrite, memRead]
  | cons e rest ih =>
    obtain ⟨k, w⟩ := e
    unfold memWrite
    split
    · simp [memRead]
    · split
      · simp [memRead]
      · rename_i h1 h2
        simp [memRead, Ne.symm h2, ih]

/-- A write leaves every other slot alone. -/
theorem memRead_memWrite_other (m : Memory) {a b : Nat} (v : Byte) (h : b ≠ a) :
    memRead (memWrite m a v) b = memRead m b := by
  induction m with
  | nil => simp [memWrite, memRead, Ne.symm h]
  | cons e rest ih =>
    obtain ⟨k, w⟩ := e
    unfold memWrite
    split
    · simp [memRead, Ne.symm h]
    · split
      · rename_i h1 h2
        subst h2
        simp [memRead, Ne.symm h]
      · simp [memRead, ih]

/-- The slots listed after a write are those listed before and the one written. -/
theorem mem_keys_memWrite (m : Memory) (a : Nat) (v : Byte) (k : Nat) :
    k ∈ (memWrite m a v).map Prod.fst ↔ k = a ∨ k ∈ m.map Prod.fst := by
  induction m with
  | nil => simp [memWrite]
  | cons e rest ih =>
    obtain ⟨j, w⟩ := e
    unfold memWrite
    split
    · simp
    · split
      · rename_i h1 h2
        subst h2
        simp
      · simp only [List.map_cons, List.mem_cons, ih]
        tauto

/-- Writing a slot keeps the canonical form. -/
theorem memWrite_wf {m : Memory} (h : m.wf) (a : Nat) (v : Byte) : (memWrite m a v).wf := by
  induction m with
  | nil => simp [memWrite, Memory.wf]
  | cons e rest ih =>
    obtain ⟨k, w⟩ := e
    simp only [Memory.wf, List.map_cons, List.pairwise_cons] at h
    unfold memWrite
    split
    · rename_i h1
      simp only [Memory.wf, List.map_cons, List.pairwise_cons, List.mem_cons]
      refine ⟨?_, h⟩
      rintro b (rfl | hb)
      · exact h1
      · exact h1.trans (h.1 b hb)
    · split
      · rename_i h1 h2
        subst h2
        simpa only [Memory.wf, List.map_cons, List.pairwise_cons] using h
      · rename_i h1 h2
        simp only [Memory.wf, List.map_cons, List.pairwise_cons]
        refine ⟨fun b hb => ?_, ih h.2⟩
        rcases (mem_keys_memWrite rest a v b).1 hb with rfl | hb
        · omega
        · exact h.1 b hb

/-- Reset's slot arrays are in canonical form, in every configuration (R37). -/
theorem State.resetWith_memory_wf (c : Cfg) (f : Sel) : ((State.resetWith c).fifo f).store.wf := by
  cases f <;> exact List.Pairwise.nil

/-- Writing a slot below a bound keeps every listed slot below it. -/
theorem memWrite_bound {m : Memory} {c : Nat} (h : ∀ e ∈ m, e.1 < c) {a : Nat} (ha : a < c) (v : Byte) :
    ∀ e ∈ memWrite m a v, e.1 < c := by
  intro e he
  rcases (mem_keys_memWrite m a v e.1).1 (List.mem_map_of_mem he) with h1 | h1
  · omega
  · obtain ⟨e', he', h2⟩ := List.mem_map.1 h1
    exact h2 ▸ h e' he'

/-- Reset's slot arrays are in canonical form. -/
theorem reset_memory_wf : State.reset.tx.store.wf ∧ State.reset.rx.store.wf := by decide

/-! ### `goto` -/

@[simp] theorem State.goto_cfg (s : State) (w : Who) (p : Phase) : (s.goto w p).cfg = s.cfg := by simp [State.goto]
@[simp] theorem State.goto_tx (s : State) (w : Who) (p : Phase) : (s.goto w p).tx = s.tx := by simp [State.goto]
@[simp] theorem State.goto_rx (s : State) (w : Who) (p : Phase) : (s.goto w p).rx = s.rx := by simp [State.goto]
@[simp] theorem State.goto_stalled (s : State) (w : Who) (p : Phase) : (s.goto w p).stalled = s.stalled := by simp [State.goto]
@[simp] theorem State.goto_rxiSw (s : State) (w : Who) (p : Phase) : (s.goto w p).rxiSw = s.rxiSw := by simp [State.goto]
@[simp] theorem State.goto_boot (s : State) (w : Who) (p : Phase) : (s.goto w p).boot = s.boot := by simp [State.goto]
@[simp] theorem State.goto_per (s : State) (w : Who) (p : Phase) : (s.goto w p).per = s.per := by simp [State.goto]
@[simp] theorem State.goto_oracle (s : State) (w : Who) (p : Phase) : (s.goto w p).oracle = s.oracle := by simp [State.goto]
@[simp] theorem State.goto_draws (s : State) (w : Who) (p : Phase) : (s.goto w p).draws = s.draws := by simp [State.goto]
@[simp] theorem State.goto_clrOrder (s : State) (w : Who) (p : Phase) : (s.goto w p).clrOrder = s.clrOrder := by simp [State.goto]
@[simp] theorem State.goto_markers (s : State) (w : Who) (p : Phase) : (s.goto w p).markers = s.markers := by simp [State.goto]
@[simp] theorem State.goto_trace (s : State) (w : Who) (p : Phase) : (s.goto w p).trace = s.trace := by simp [State.goto]
@[simp] theorem State.goto_cmds (s : State) (w : Who) (p : Phase) : (s.goto w p).cmds = s.cmds := by simp [State.goto]
@[simp] theorem State.goto_turns (s : State) (w : Who) (p : Phase) : (s.goto w p).turns = s.turns := by simp [State.goto]
@[simp] theorem State.goto_grant (s : State) (w : Who) (p : Phase) : (s.goto w p).grant = s.grant := by simp [State.goto]
@[simp] theorem State.goto_fifo (s : State) (w : Who) (p : Phase) (g : Sel) : (s.goto w p).fifo g = s.fifo g := by cases g <;> simp [State.fifo]
@[simp] theorem State.goto_occ (s : State) (w : Who) (p : Phase) (g : Sel) : (s.goto w p).occ g = s.occ g := by simp [State.occ, State.cap]
@[simp] theorem State.goto_cap (s : State) (w : Who) (p : Phase) (g : Sel) : (s.goto w p).cap g = s.cap g := by simp [State.cap]

/-! ### `ret` -/

@[simp] theorem State.ret_cfg (s : State) (w : Who) : (s.ret w).cfg = s.cfg := by simp [State.ret, State.goto]
@[simp] theorem State.ret_tx (s : State) (w : Who) : (s.ret w).tx = s.tx := by simp [State.ret, State.goto]
@[simp] theorem State.ret_rx (s : State) (w : Who) : (s.ret w).rx = s.rx := by simp [State.ret, State.goto]
@[simp] theorem State.ret_stalled (s : State) (w : Who) : (s.ret w).stalled = s.stalled := by simp [State.ret, State.goto]
@[simp] theorem State.ret_rxiSw (s : State) (w : Who) : (s.ret w).rxiSw = s.rxiSw := by simp [State.ret, State.goto]
@[simp] theorem State.ret_boot (s : State) (w : Who) : (s.ret w).boot = s.boot := by simp [State.ret, State.goto]
@[simp] theorem State.ret_per (s : State) (w : Who) : (s.ret w).per = s.per := by simp [State.ret, State.goto]
@[simp] theorem State.ret_oracle (s : State) (w : Who) : (s.ret w).oracle = s.oracle := by simp [State.ret, State.goto]
@[simp] theorem State.ret_draws (s : State) (w : Who) : (s.ret w).draws = s.draws := by simp [State.ret, State.goto]
@[simp] theorem State.ret_clrOrder (s : State) (w : Who) : (s.ret w).clrOrder = s.clrOrder := by simp [State.ret, State.goto]
@[simp] theorem State.ret_markers (s : State) (w : Who) : (s.ret w).markers = s.markers := by simp [State.ret, State.goto]
@[simp] theorem State.ret_trace (s : State) (w : Who) : (s.ret w).trace = s.trace := by simp [State.ret, State.goto]
@[simp] theorem State.ret_cmds (s : State) (w : Who) : (s.ret w).cmds = s.cmds := by simp [State.ret, State.goto]
@[simp] theorem State.ret_turns (s : State) (w : Who) : (s.ret w).turns = s.turns := by simp [State.ret, State.goto]
@[simp] theorem State.ret_grant (s : State) (w : Who) : (s.ret w).grant = s.grant := by simp [State.ret, State.goto]
@[simp] theorem State.ret_fifo (s : State) (w : Who) (g : Sel) : (s.ret w).fifo g = s.fifo g := by cases g <;> simp [State.fifo]
@[simp] theorem State.ret_occ (s : State) (w : Who) (g : Sel) : (s.ret w).occ g = s.occ g := by simp [State.occ, State.cap]
@[simp] theorem State.ret_cap (s : State) (w : Who) (g : Sel) : (s.ret w).cap g = s.cap g := by simp [State.cap]

/-! ### `callResume` -/

@[simp] theorem State.callResume_cfg (s : State) (w : Who) (r : Phase) : (s.callResume w r).cfg = s.cfg := by simp [State.callResume]
@[simp] theorem State.callResume_tx (s : State) (w : Who) (r : Phase) : (s.callResume w r).tx = s.tx := by simp [State.callResume]
@[simp] theorem State.callResume_rx (s : State) (w : Who) (r : Phase) : (s.callResume w r).rx = s.rx := by simp [State.callResume]
@[simp] theorem State.callResume_stalled (s : State) (w : Who) (r : Phase) : (s.callResume w r).stalled = s.stalled := by simp [State.callResume]
@[simp] theorem State.callResume_rxiSw (s : State) (w : Who) (r : Phase) : (s.callResume w r).rxiSw = s.rxiSw := by simp [State.callResume]
@[simp] theorem State.callResume_boot (s : State) (w : Who) (r : Phase) : (s.callResume w r).boot = s.boot := by simp [State.callResume]
@[simp] theorem State.callResume_per (s : State) (w : Who) (r : Phase) : (s.callResume w r).per = s.per := by simp [State.callResume]
@[simp] theorem State.callResume_oracle (s : State) (w : Who) (r : Phase) : (s.callResume w r).oracle = s.oracle := by simp [State.callResume]
@[simp] theorem State.callResume_draws (s : State) (w : Who) (r : Phase) : (s.callResume w r).draws = s.draws := by simp [State.callResume]
@[simp] theorem State.callResume_clrOrder (s : State) (w : Who) (r : Phase) : (s.callResume w r).clrOrder = s.clrOrder := by simp [State.callResume]
@[simp] theorem State.callResume_markers (s : State) (w : Who) (r : Phase) : (s.callResume w r).markers = s.markers := by simp [State.callResume]
@[simp] theorem State.callResume_trace (s : State) (w : Who) (r : Phase) : (s.callResume w r).trace = s.trace := by simp [State.callResume]
@[simp] theorem State.callResume_cmds (s : State) (w : Who) (r : Phase) : (s.callResume w r).cmds = s.cmds := by simp [State.callResume]
@[simp] theorem State.callResume_turns (s : State) (w : Who) (r : Phase) : (s.callResume w r).turns = s.turns := by simp [State.callResume]
@[simp] theorem State.callResume_grant (s : State) (w : Who) (r : Phase) : (s.callResume w r).grant = s.grant := by simp [State.callResume]
@[simp] theorem State.callResume_fifo (s : State) (w : Who) (r : Phase) (g : Sel) : (s.callResume w r).fifo g = s.fifo g := by cases g <;> simp [State.fifo]
@[simp] theorem State.callResume_occ (s : State) (w : Who) (r : Phase) (g : Sel) : (s.callResume w r).occ g = s.occ g := by simp [State.occ, State.cap]
@[simp] theorem State.callResume_cap (s : State) (w : Who) (r : Phase) (g : Sel) : (s.callResume w r).cap g = s.cap g := by simp [State.cap]

/-! ### `callPut` -/

@[simp] theorem State.callPut_cfg (s : State) (w : Who) (f : Sel) (b : Byte) (r : Phase) : (s.callPut w f b r).cfg = s.cfg := by simp [State.callPut]
@[simp] theorem State.callPut_tx (s : State) (w : Who) (f : Sel) (b : Byte) (r : Phase) : (s.callPut w f b r).tx = s.tx := by simp [State.callPut]
@[simp] theorem State.callPut_rx (s : State) (w : Who) (f : Sel) (b : Byte) (r : Phase) : (s.callPut w f b r).rx = s.rx := by simp [State.callPut]
@[simp] theorem State.callPut_stalled (s : State) (w : Who) (f : Sel) (b : Byte) (r : Phase) : (s.callPut w f b r).stalled = s.stalled := by simp [State.callPut]
@[simp] theorem State.callPut_rxiSw (s : State) (w : Who) (f : Sel) (b : Byte) (r : Phase) : (s.callPut w f b r).rxiSw = s.rxiSw := by simp [State.callPut]
@[simp] theorem State.callPut_boot (s : State) (w : Who) (f : Sel) (b : Byte) (r : Phase) : (s.callPut w f b r).boot = s.boot := by simp [State.callPut]
@[simp] theorem State.callPut_per (s : State) (w : Who) (f : Sel) (b : Byte) (r : Phase) : (s.callPut w f b r).per = s.per := by simp [State.callPut]
@[simp] theorem State.callPut_oracle (s : State) (w : Who) (f : Sel) (b : Byte) (r : Phase) : (s.callPut w f b r).oracle = s.oracle := by simp [State.callPut]
@[simp] theorem State.callPut_draws (s : State) (w : Who) (f : Sel) (b : Byte) (r : Phase) : (s.callPut w f b r).draws = s.draws := by simp [State.callPut]
@[simp] theorem State.callPut_clrOrder (s : State) (w : Who) (f : Sel) (b : Byte) (r : Phase) : (s.callPut w f b r).clrOrder = s.clrOrder := by simp [State.callPut]
@[simp] theorem State.callPut_markers (s : State) (w : Who) (f : Sel) (b : Byte) (r : Phase) : (s.callPut w f b r).markers = s.markers := by simp [State.callPut]
@[simp] theorem State.callPut_trace (s : State) (w : Who) (f : Sel) (b : Byte) (r : Phase) : (s.callPut w f b r).trace = s.trace := by simp [State.callPut]
@[simp] theorem State.callPut_cmds (s : State) (w : Who) (f : Sel) (b : Byte) (r : Phase) : (s.callPut w f b r).cmds = s.cmds := by simp [State.callPut]
@[simp] theorem State.callPut_turns (s : State) (w : Who) (f : Sel) (b : Byte) (r : Phase) : (s.callPut w f b r).turns = s.turns := by simp [State.callPut]
@[simp] theorem State.callPut_grant (s : State) (w : Who) (f : Sel) (b : Byte) (r : Phase) : (s.callPut w f b r).grant = s.grant := by simp [State.callPut]
@[simp] theorem State.callPut_fifo (s : State) (w : Who) (f : Sel) (b : Byte) (r : Phase) (g : Sel) : (s.callPut w f b r).fifo g = s.fifo g := by cases g <;> simp [State.fifo]
@[simp] theorem State.callPut_occ (s : State) (w : Who) (f : Sel) (b : Byte) (r : Phase) (g : Sel) : (s.callPut w f b r).occ g = s.occ g := by simp [State.occ, State.cap]
@[simp] theorem State.callPut_cap (s : State) (w : Who) (f : Sel) (b : Byte) (r : Phase) (g : Sel) : (s.callPut w f b r).cap g = s.cap g := by simp [State.cap]

/-! ### `callGet` -/

@[simp] theorem State.callGet_cfg (s : State) (w : Who) (f : Sel) (r : Phase) : (s.callGet w f r).cfg = s.cfg := by simp [State.callGet]
@[simp] theorem State.callGet_tx (s : State) (w : Who) (f : Sel) (r : Phase) : (s.callGet w f r).tx = s.tx := by simp [State.callGet]
@[simp] theorem State.callGet_rx (s : State) (w : Who) (f : Sel) (r : Phase) : (s.callGet w f r).rx = s.rx := by simp [State.callGet]
@[simp] theorem State.callGet_stalled (s : State) (w : Who) (f : Sel) (r : Phase) : (s.callGet w f r).stalled = s.stalled := by simp [State.callGet]
@[simp] theorem State.callGet_rxiSw (s : State) (w : Who) (f : Sel) (r : Phase) : (s.callGet w f r).rxiSw = s.rxiSw := by simp [State.callGet]
@[simp] theorem State.callGet_boot (s : State) (w : Who) (f : Sel) (r : Phase) : (s.callGet w f r).boot = s.boot := by simp [State.callGet]
@[simp] theorem State.callGet_per (s : State) (w : Who) (f : Sel) (r : Phase) : (s.callGet w f r).per = s.per := by simp [State.callGet]
@[simp] theorem State.callGet_oracle (s : State) (w : Who) (f : Sel) (r : Phase) : (s.callGet w f r).oracle = s.oracle := by simp [State.callGet]
@[simp] theorem State.callGet_draws (s : State) (w : Who) (f : Sel) (r : Phase) : (s.callGet w f r).draws = s.draws := by simp [State.callGet]
@[simp] theorem State.callGet_clrOrder (s : State) (w : Who) (f : Sel) (r : Phase) : (s.callGet w f r).clrOrder = s.clrOrder := by simp [State.callGet]
@[simp] theorem State.callGet_markers (s : State) (w : Who) (f : Sel) (r : Phase) : (s.callGet w f r).markers = s.markers := by simp [State.callGet]
@[simp] theorem State.callGet_trace (s : State) (w : Who) (f : Sel) (r : Phase) : (s.callGet w f r).trace = s.trace := by simp [State.callGet]
@[simp] theorem State.callGet_cmds (s : State) (w : Who) (f : Sel) (r : Phase) : (s.callGet w f r).cmds = s.cmds := by simp [State.callGet]
@[simp] theorem State.callGet_turns (s : State) (w : Who) (f : Sel) (r : Phase) : (s.callGet w f r).turns = s.turns := by simp [State.callGet]
@[simp] theorem State.callGet_grant (s : State) (w : Who) (f : Sel) (r : Phase) : (s.callGet w f r).grant = s.grant := by simp [State.callGet]
@[simp] theorem State.callGet_fifo (s : State) (w : Who) (f : Sel) (r : Phase) (g : Sel) : (s.callGet w f r).fifo g = s.fifo g := by cases g <;> simp [State.fifo]
@[simp] theorem State.callGet_occ (s : State) (w : Who) (f : Sel) (r : Phase) (g : Sel) : (s.callGet w f r).occ g = s.occ g := by simp [State.occ, State.cap]
@[simp] theorem State.callGet_cap (s : State) (w : Who) (f : Sel) (r : Phase) (g : Sel) : (s.callGet w f r).cap g = s.cap g := by simp [State.cap]

/-! ### `leaveHandler` -/

@[simp] theorem State.leaveHandler_cfg (s : State) (w : Who) : (s.leaveHandler w).cfg = s.cfg := by simp [State.leaveHandler, State.goto]
@[simp] theorem State.leaveHandler_tx (s : State) (w : Who) : (s.leaveHandler w).tx = s.tx := by simp [State.leaveHandler, State.goto]
@[simp] theorem State.leaveHandler_rx (s : State) (w : Who) : (s.leaveHandler w).rx = s.rx := by simp [State.leaveHandler, State.goto]
@[simp] theorem State.leaveHandler_stalled (s : State) (w : Who) : (s.leaveHandler w).stalled = s.stalled := by simp [State.leaveHandler, State.goto]
@[simp] theorem State.leaveHandler_rxiSw (s : State) (w : Who) : (s.leaveHandler w).rxiSw = s.rxiSw := by simp [State.leaveHandler, State.goto]
@[simp] theorem State.leaveHandler_boot (s : State) (w : Who) : (s.leaveHandler w).boot = s.boot := by simp [State.leaveHandler, State.goto]
@[simp] theorem State.leaveHandler_per (s : State) (w : Who) : (s.leaveHandler w).per = s.per := by simp [State.leaveHandler, State.goto]
@[simp] theorem State.leaveHandler_oracle (s : State) (w : Who) : (s.leaveHandler w).oracle = s.oracle := by simp [State.leaveHandler, State.goto]
@[simp] theorem State.leaveHandler_draws (s : State) (w : Who) : (s.leaveHandler w).draws = s.draws := by simp [State.leaveHandler, State.goto]
@[simp] theorem State.leaveHandler_clrOrder (s : State) (w : Who) : (s.leaveHandler w).clrOrder = s.clrOrder := by simp [State.leaveHandler, State.goto]
@[simp] theorem State.leaveHandler_markers (s : State) (w : Who) : (s.leaveHandler w).markers = s.markers := by simp [State.leaveHandler, State.goto]
@[simp] theorem State.leaveHandler_trace (s : State) (w : Who) : (s.leaveHandler w).trace = s.trace := by simp [State.leaveHandler, State.goto]
@[simp] theorem State.leaveHandler_cmds (s : State) (w : Who) : (s.leaveHandler w).cmds = s.cmds := by simp [State.leaveHandler, State.goto]
@[simp] theorem State.leaveHandler_turns (s : State) (w : Who) : (s.leaveHandler w).turns = s.turns := by simp [State.leaveHandler, State.goto]
@[simp] theorem State.leaveHandler_grant (s : State) (w : Who) : (s.leaveHandler w).grant = s.grant := by simp [State.leaveHandler, State.goto]
@[simp] theorem State.leaveHandler_fifo (s : State) (w : Who) (g : Sel) : (s.leaveHandler w).fifo g = s.fifo g := by cases g <;> simp [State.fifo]
@[simp] theorem State.leaveHandler_occ (s : State) (w : Who) (g : Sel) : (s.leaveHandler w).occ g = s.occ g := by simp [State.occ, State.cap]
@[simp] theorem State.leaveHandler_cap (s : State) (w : Who) (g : Sel) : (s.leaveHandler w).cap g = s.cap g := by simp [State.cap]

/-! ### `enterHandler` -/

@[simp] theorem State.enterHandler_cfg (s : State) (src : IrqSource) (i : Instr) : (s.enterHandler src i).cfg = s.cfg := by simp [State.enterHandler, State.goto]
@[simp] theorem State.enterHandler_tx (s : State) (src : IrqSource) (i : Instr) : (s.enterHandler src i).tx = s.tx := by simp [State.enterHandler, State.goto]
@[simp] theorem State.enterHandler_rx (s : State) (src : IrqSource) (i : Instr) : (s.enterHandler src i).rx = s.rx := by simp [State.enterHandler, State.goto]
@[simp] theorem State.enterHandler_stalled (s : State) (src : IrqSource) (i : Instr) : (s.enterHandler src i).stalled = s.stalled := by simp [State.enterHandler, State.goto]
@[simp] theorem State.enterHandler_rxiSw (s : State) (src : IrqSource) (i : Instr) : (s.enterHandler src i).rxiSw = s.rxiSw := by simp [State.enterHandler, State.goto]
@[simp] theorem State.enterHandler_boot (s : State) (src : IrqSource) (i : Instr) : (s.enterHandler src i).boot = s.boot := by simp [State.enterHandler, State.goto]
@[simp] theorem State.enterHandler_per (s : State) (src : IrqSource) (i : Instr) : (s.enterHandler src i).per = s.per := by simp [State.enterHandler, State.goto]
@[simp] theorem State.enterHandler_oracle (s : State) (src : IrqSource) (i : Instr) : (s.enterHandler src i).oracle = s.oracle := by simp [State.enterHandler, State.goto]
@[simp] theorem State.enterHandler_draws (s : State) (src : IrqSource) (i : Instr) : (s.enterHandler src i).draws = s.draws := by simp [State.enterHandler, State.goto]
@[simp] theorem State.enterHandler_clrOrder (s : State) (src : IrqSource) (i : Instr) : (s.enterHandler src i).clrOrder = s.clrOrder := by simp [State.enterHandler, State.goto]
@[simp] theorem State.enterHandler_markers (s : State) (src : IrqSource) (i : Instr) : (s.enterHandler src i).markers = s.markers := by simp [State.enterHandler, State.goto]
@[simp] theorem State.enterHandler_cmds (s : State) (src : IrqSource) (i : Instr) : (s.enterHandler src i).cmds = s.cmds := by simp [State.enterHandler, State.goto]
@[simp] theorem State.enterHandler_turns (s : State) (src : IrqSource) (i : Instr) : (s.enterHandler src i).turns = s.turns := by simp [State.enterHandler, State.goto]
@[simp] theorem State.enterHandler_grant (s : State) (src : IrqSource) (i : Instr) : (s.enterHandler src i).grant = s.grant := by simp [State.enterHandler, State.goto]
@[simp] theorem State.enterHandler_fifo (s : State) (src : IrqSource) (i : Instr) (g : Sel) : (s.enterHandler src i).fifo g = s.fifo g := by cases g <;> simp [State.fifo]
@[simp] theorem State.enterHandler_occ (s : State) (src : IrqSource) (i : Instr) (g : Sel) : (s.enterHandler src i).occ g = s.occ g := by simp [State.occ, State.cap]
@[simp] theorem State.enterHandler_cap (s : State) (src : IrqSource) (i : Instr) (g : Sel) : (s.enterHandler src i).cap g = s.cap g := by simp [State.cap]

/-! ### `writeSlot` -/

@[simp] theorem State.writeSlot_cfg (s : State) (f : Sel) (v : Byte) : (s.writeSlot f v).cfg = s.cfg := by simp [State.writeSlot]
@[simp] theorem State.writeSlot_stalled (s : State) (f : Sel) (v : Byte) : (s.writeSlot f v).stalled = s.stalled := by simp [State.writeSlot]
@[simp] theorem State.writeSlot_fg (s : State) (f : Sel) (v : Byte) : (s.writeSlot f v).fg = s.fg := by simp [State.writeSlot]
@[simp] theorem State.writeSlot_txi (s : State) (f : Sel) (v : Byte) : (s.writeSlot f v).txi = s.txi := by simp [State.writeSlot]
@[simp] theorem State.writeSlot_rxi (s : State) (f : Sel) (v : Byte) : (s.writeSlot f v).rxi = s.rxi := by simp [State.writeSlot]
@[simp] theorem State.writeSlot_rxiSw (s : State) (f : Sel) (v : Byte) : (s.writeSlot f v).rxiSw = s.rxiSw := by simp [State.writeSlot]
@[simp] theorem State.writeSlot_call (s : State) (f : Sel) (v : Byte) : (s.writeSlot f v).call = s.call := by simp [State.writeSlot]
@[simp] theorem State.writeSlot_boot (s : State) (f : Sel) (v : Byte) : (s.writeSlot f v).boot = s.boot := by simp [State.writeSlot]
@[simp] theorem State.writeSlot_per (s : State) (f : Sel) (v : Byte) : (s.writeSlot f v).per = s.per := by simp [State.writeSlot]
@[simp] theorem State.writeSlot_oracle (s : State) (f : Sel) (v : Byte) : (s.writeSlot f v).oracle = s.oracle := by simp [State.writeSlot]
@[simp] theorem State.writeSlot_draws (s : State) (f : Sel) (v : Byte) : (s.writeSlot f v).draws = s.draws := by simp [State.writeSlot]
@[simp] theorem State.writeSlot_clrOrder (s : State) (f : Sel) (v : Byte) : (s.writeSlot f v).clrOrder = s.clrOrder := by simp [State.writeSlot]
@[simp] theorem State.writeSlot_markers (s : State) (f : Sel) (v : Byte) : (s.writeSlot f v).markers = s.markers := by simp [State.writeSlot]
@[simp] theorem State.writeSlot_trace (s : State) (f : Sel) (v : Byte) : (s.writeSlot f v).trace = s.trace := by simp [State.writeSlot]
@[simp] theorem State.writeSlot_cmds (s : State) (f : Sel) (v : Byte) : (s.writeSlot f v).cmds = s.cmds := by simp [State.writeSlot]
@[simp] theorem State.writeSlot_turns (s : State) (f : Sel) (v : Byte) : (s.writeSlot f v).turns = s.turns := by simp [State.writeSlot]
@[simp] theorem State.writeSlot_grant (s : State) (f : Sel) (v : Byte) : (s.writeSlot f v).grant = s.grant := by simp [State.writeSlot]
@[simp] theorem State.writeSlot_handlerActive (s : State) (f : Sel) (v : Byte) : (s.writeSlot f v).handlerActive = s.handlerActive := by simp [State.handlerActive]
@[simp] theorem State.writeSlot_agentOf (s : State) (f : Sel) (v : Byte) (u : Who) : (s.writeSlot f v).agentOf u = s.agentOf u := by cases u <;> simp [State.agentOf]
@[simp] theorem State.writeSlot_ctx (s : State) (f : Sel) (v : Byte) (u : Who) : (s.writeSlot f v).ctx u = s.ctx u := by cases u <;> simp [State.ctx]
@[simp] theorem State.writeSlot_cap (s : State) (f : Sel) (v : Byte) (g : Sel) : (s.writeSlot f v).cap g = s.cap g := by simp [State.cap]

/-! ### `advancePut` -/

@[simp] theorem State.advancePut_cfg (s : State) (f : Sel) : (s.advancePut f).cfg = s.cfg := by unfold State.advancePut; split <;> simp
@[simp] theorem State.advancePut_stalled (s : State) (f : Sel) : (s.advancePut f).stalled = s.stalled := by unfold State.advancePut; split <;> simp
@[simp] theorem State.advancePut_fg (s : State) (f : Sel) : (s.advancePut f).fg = s.fg := by unfold State.advancePut; split <;> simp
@[simp] theorem State.advancePut_txi (s : State) (f : Sel) : (s.advancePut f).txi = s.txi := by unfold State.advancePut; split <;> simp
@[simp] theorem State.advancePut_rxi (s : State) (f : Sel) : (s.advancePut f).rxi = s.rxi := by unfold State.advancePut; split <;> simp
@[simp] theorem State.advancePut_rxiSw (s : State) (f : Sel) : (s.advancePut f).rxiSw = s.rxiSw := by unfold State.advancePut; split <;> simp
@[simp] theorem State.advancePut_call (s : State) (f : Sel) : (s.advancePut f).call = s.call := by unfold State.advancePut; split <;> simp
@[simp] theorem State.advancePut_boot (s : State) (f : Sel) : (s.advancePut f).boot = s.boot := by unfold State.advancePut; split <;> simp
@[simp] theorem State.advancePut_per (s : State) (f : Sel) : (s.advancePut f).per = s.per := by unfold State.advancePut; split <;> simp
@[simp] theorem State.advancePut_oracle (s : State) (f : Sel) : (s.advancePut f).oracle = s.oracle := by unfold State.advancePut; split <;> simp
@[simp] theorem State.advancePut_draws (s : State) (f : Sel) : (s.advancePut f).draws = s.draws := by unfold State.advancePut; split <;> simp
@[simp] theorem State.advancePut_clrOrder (s : State) (f : Sel) : (s.advancePut f).clrOrder = s.clrOrder := by unfold State.advancePut; split <;> simp
@[simp] theorem State.advancePut_trace (s : State) (f : Sel) : (s.advancePut f).trace = s.trace := by unfold State.advancePut; split <;> simp
@[simp] theorem State.advancePut_cmds (s : State) (f : Sel) : (s.advancePut f).cmds = s.cmds := by unfold State.advancePut; split <;> simp
@[simp] theorem State.advancePut_turns (s : State) (f : Sel) : (s.advancePut f).turns = s.turns := by unfold State.advancePut; split <;> simp
@[simp] theorem State.advancePut_grant (s : State) (f : Sel) : (s.advancePut f).grant = s.grant := by unfold State.advancePut; split <;> simp
@[simp] theorem State.advancePut_handlerActive (s : State) (f : Sel) : (s.advancePut f).handlerActive = s.handlerActive := by simp [State.handlerActive]
@[simp] theorem State.advancePut_agentOf (s : State) (f : Sel) (u : Who) : (s.advancePut f).agentOf u = s.agentOf u := by cases u <;> simp [State.agentOf]
@[simp] theorem State.advancePut_ctx (s : State) (f : Sel) (u : Who) : (s.advancePut f).ctx u = s.ctx u := by cases u <;> simp [State.ctx]
@[simp] theorem State.advancePut_cap (s : State) (f : Sel) (g : Sel) : (s.advancePut f).cap g = s.cap g := by simp [State.cap]

/-! ### `readSlot` -/

@[simp] theorem State.readSlot_cfg (s : State) (w : Who) (f : Sel) : (s.readSlot w f).cfg = s.cfg := by unfold State.readSlot; split <;> simp
@[simp] theorem State.readSlot_tx (s : State) (w : Who) (f : Sel) : (s.readSlot w f).tx = s.tx := by unfold State.readSlot; split <;> simp
@[simp] theorem State.readSlot_rx (s : State) (w : Who) (f : Sel) : (s.readSlot w f).rx = s.rx := by unfold State.readSlot; split <;> simp
@[simp] theorem State.readSlot_stalled (s : State) (w : Who) (f : Sel) : (s.readSlot w f).stalled = s.stalled := by unfold State.readSlot; split <;> simp
@[simp] theorem State.readSlot_rxiSw (s : State) (w : Who) (f : Sel) : (s.readSlot w f).rxiSw = s.rxiSw := by unfold State.readSlot; split <;> simp
@[simp] theorem State.readSlot_boot (s : State) (w : Who) (f : Sel) : (s.readSlot w f).boot = s.boot := by unfold State.readSlot; split <;> simp
@[simp] theorem State.readSlot_per (s : State) (w : Who) (f : Sel) : (s.readSlot w f).per = s.per := by unfold State.readSlot; split <;> simp
@[simp] theorem State.readSlot_oracle (s : State) (w : Who) (f : Sel) : (s.readSlot w f).oracle = s.oracle := by unfold State.readSlot; split <;> simp
@[simp] theorem State.readSlot_clrOrder (s : State) (w : Who) (f : Sel) : (s.readSlot w f).clrOrder = s.clrOrder := by unfold State.readSlot; split <;> simp
@[simp] theorem State.readSlot_trace (s : State) (w : Who) (f : Sel) : (s.readSlot w f).trace = s.trace := by unfold State.readSlot; split <;> simp
@[simp] theorem State.readSlot_cmds (s : State) (w : Who) (f : Sel) : (s.readSlot w f).cmds = s.cmds := by unfold State.readSlot; split <;> simp
@[simp] theorem State.readSlot_turns (s : State) (w : Who) (f : Sel) : (s.readSlot w f).turns = s.turns := by unfold State.readSlot; split <;> simp
@[simp] theorem State.readSlot_grant (s : State) (w : Who) (f : Sel) : (s.readSlot w f).grant = s.grant := by unfold State.readSlot; split <;> simp
@[simp] theorem State.readSlot_fifo (s : State) (w : Who) (f : Sel) (g : Sel) : (s.readSlot w f).fifo g = s.fifo g := by cases g <;> simp [State.fifo]
@[simp] theorem State.readSlot_occ (s : State) (w : Who) (f : Sel) (g : Sel) : (s.readSlot w f).occ g = s.occ g := by simp [State.occ, State.cap]
@[simp] theorem State.readSlot_cap (s : State) (w : Who) (f : Sel) (g : Sel) : (s.readSlot w f).cap g = s.cap g := by simp [State.cap]

/-! ### `clearGet` -/

@[simp] theorem State.clearGet_cfg (s : State) (f : Sel) : (s.clearGet f).cfg = s.cfg := by simp [State.clearGet]
@[simp] theorem State.clearGet_stalled (s : State) (f : Sel) : (s.clearGet f).stalled = s.stalled := by simp [State.clearGet]
@[simp] theorem State.clearGet_fg (s : State) (f : Sel) : (s.clearGet f).fg = s.fg := by simp [State.clearGet]
@[simp] theorem State.clearGet_txi (s : State) (f : Sel) : (s.clearGet f).txi = s.txi := by simp [State.clearGet]
@[simp] theorem State.clearGet_rxi (s : State) (f : Sel) : (s.clearGet f).rxi = s.rxi := by simp [State.clearGet]
@[simp] theorem State.clearGet_rxiSw (s : State) (f : Sel) : (s.clearGet f).rxiSw = s.rxiSw := by simp [State.clearGet]
@[simp] theorem State.clearGet_call (s : State) (f : Sel) : (s.clearGet f).call = s.call := by simp [State.clearGet]
@[simp] theorem State.clearGet_boot (s : State) (f : Sel) : (s.clearGet f).boot = s.boot := by simp [State.clearGet]
@[simp] theorem State.clearGet_per (s : State) (f : Sel) : (s.clearGet f).per = s.per := by simp [State.clearGet]
@[simp] theorem State.clearGet_oracle (s : State) (f : Sel) : (s.clearGet f).oracle = s.oracle := by simp [State.clearGet]
@[simp] theorem State.clearGet_draws (s : State) (f : Sel) : (s.clearGet f).draws = s.draws := by simp [State.clearGet]
@[simp] theorem State.clearGet_clrOrder (s : State) (f : Sel) : (s.clearGet f).clrOrder = s.clrOrder := by simp [State.clearGet]
@[simp] theorem State.clearGet_markers (s : State) (f : Sel) : (s.clearGet f).markers = s.markers := by simp [State.clearGet]
@[simp] theorem State.clearGet_trace (s : State) (f : Sel) : (s.clearGet f).trace = s.trace := by simp [State.clearGet]
@[simp] theorem State.clearGet_cmds (s : State) (f : Sel) : (s.clearGet f).cmds = s.cmds := by simp [State.clearGet]
@[simp] theorem State.clearGet_turns (s : State) (f : Sel) : (s.clearGet f).turns = s.turns := by simp [State.clearGet]
@[simp] theorem State.clearGet_grant (s : State) (f : Sel) : (s.clearGet f).grant = s.grant := by simp [State.clearGet]
@[simp] theorem State.clearGet_handlerActive (s : State) (f : Sel) : (s.clearGet f).handlerActive = s.handlerActive := by simp [State.handlerActive]
@[simp] theorem State.clearGet_agentOf (s : State) (f : Sel) (u : Who) : (s.clearGet f).agentOf u = s.agentOf u := by cases u <;> simp [State.agentOf]
@[simp] theorem State.clearGet_ctx (s : State) (f : Sel) (u : Who) : (s.clearGet f).ctx u = s.ctx u := by cases u <;> simp [State.ctx]
@[simp] theorem State.clearGet_cap (s : State) (f : Sel) (g : Sel) : (s.clearGet f).cap g = s.cap g := by simp [State.cap]

/-! ### `clearPut` -/

@[simp] theorem State.clearPut_cfg (s : State) (f : Sel) : (s.clearPut f).cfg = s.cfg := by simp [State.clearPut]
@[simp] theorem State.clearPut_stalled (s : State) (f : Sel) : (s.clearPut f).stalled = s.stalled := by simp [State.clearPut]
@[simp] theorem State.clearPut_fg (s : State) (f : Sel) : (s.clearPut f).fg = s.fg := by simp [State.clearPut]
@[simp] theorem State.clearPut_txi (s : State) (f : Sel) : (s.clearPut f).txi = s.txi := by simp [State.clearPut]
@[simp] theorem State.clearPut_rxi (s : State) (f : Sel) : (s.clearPut f).rxi = s.rxi := by simp [State.clearPut]
@[simp] theorem State.clearPut_rxiSw (s : State) (f : Sel) : (s.clearPut f).rxiSw = s.rxiSw := by simp [State.clearPut]
@[simp] theorem State.clearPut_call (s : State) (f : Sel) : (s.clearPut f).call = s.call := by simp [State.clearPut]
@[simp] theorem State.clearPut_boot (s : State) (f : Sel) : (s.clearPut f).boot = s.boot := by simp [State.clearPut]
@[simp] theorem State.clearPut_per (s : State) (f : Sel) : (s.clearPut f).per = s.per := by simp [State.clearPut]
@[simp] theorem State.clearPut_oracle (s : State) (f : Sel) : (s.clearPut f).oracle = s.oracle := by simp [State.clearPut]
@[simp] theorem State.clearPut_draws (s : State) (f : Sel) : (s.clearPut f).draws = s.draws := by simp [State.clearPut]
@[simp] theorem State.clearPut_clrOrder (s : State) (f : Sel) : (s.clearPut f).clrOrder = s.clrOrder := by simp [State.clearPut]
@[simp] theorem State.clearPut_markers (s : State) (f : Sel) : (s.clearPut f).markers = s.markers := by simp [State.clearPut]
@[simp] theorem State.clearPut_trace (s : State) (f : Sel) : (s.clearPut f).trace = s.trace := by simp [State.clearPut]
@[simp] theorem State.clearPut_cmds (s : State) (f : Sel) : (s.clearPut f).cmds = s.cmds := by simp [State.clearPut]
@[simp] theorem State.clearPut_turns (s : State) (f : Sel) : (s.clearPut f).turns = s.turns := by simp [State.clearPut]
@[simp] theorem State.clearPut_grant (s : State) (f : Sel) : (s.clearPut f).grant = s.grant := by simp [State.clearPut]
@[simp] theorem State.clearPut_handlerActive (s : State) (f : Sel) : (s.clearPut f).handlerActive = s.handlerActive := by simp [State.handlerActive]
@[simp] theorem State.clearPut_agentOf (s : State) (f : Sel) (u : Who) : (s.clearPut f).agentOf u = s.agentOf u := by cases u <;> simp [State.agentOf]
@[simp] theorem State.clearPut_ctx (s : State) (f : Sel) (u : Who) : (s.clearPut f).ctx u = s.ctx u := by cases u <;> simp [State.ctx]
@[simp] theorem State.clearPut_cap (s : State) (f : Sel) (g : Sel) : (s.clearPut f).cap g = s.cap g := by simp [State.cap]

/-! ### `logCall` -/

@[simp] theorem State.logCall_cfg (s : State) (a : Agent) (c : SurfaceCall) : (s.logCall a c).cfg = s.cfg := rfl
@[simp] theorem State.logCall_tx (s : State) (a : Agent) (c : SurfaceCall) : (s.logCall a c).tx = s.tx := rfl
@[simp] theorem State.logCall_rx (s : State) (a : Agent) (c : SurfaceCall) : (s.logCall a c).rx = s.rx := rfl
@[simp] theorem State.logCall_stalled (s : State) (a : Agent) (c : SurfaceCall) : (s.logCall a c).stalled = s.stalled := rfl
@[simp] theorem State.logCall_fg (s : State) (a : Agent) (c : SurfaceCall) : (s.logCall a c).fg = s.fg := rfl
@[simp] theorem State.logCall_txi (s : State) (a : Agent) (c : SurfaceCall) : (s.logCall a c).txi = s.txi := rfl
@[simp] theorem State.logCall_rxi (s : State) (a : Agent) (c : SurfaceCall) : (s.logCall a c).rxi = s.rxi := rfl
@[simp] theorem State.logCall_rxiSw (s : State) (a : Agent) (c : SurfaceCall) : (s.logCall a c).rxiSw = s.rxiSw := rfl
@[simp] theorem State.logCall_call (s : State) (a : Agent) (c : SurfaceCall) : (s.logCall a c).call = s.call := rfl
@[simp] theorem State.logCall_boot (s : State) (a : Agent) (c : SurfaceCall) : (s.logCall a c).boot = s.boot := rfl
@[simp] theorem State.logCall_per (s : State) (a : Agent) (c : SurfaceCall) : (s.logCall a c).per = s.per := rfl
@[simp] theorem State.logCall_oracle (s : State) (a : Agent) (c : SurfaceCall) : (s.logCall a c).oracle = s.oracle := rfl
@[simp] theorem State.logCall_draws (s : State) (a : Agent) (c : SurfaceCall) : (s.logCall a c).draws = s.draws := rfl
@[simp] theorem State.logCall_clrOrder (s : State) (a : Agent) (c : SurfaceCall) : (s.logCall a c).clrOrder = s.clrOrder := rfl
@[simp] theorem State.logCall_markers (s : State) (a : Agent) (c : SurfaceCall) : (s.logCall a c).markers = s.markers := rfl
@[simp] theorem State.logCall_cmds (s : State) (a : Agent) (c : SurfaceCall) : (s.logCall a c).cmds = s.cmds := rfl
@[simp] theorem State.logCall_turns (s : State) (a : Agent) (c : SurfaceCall) : (s.logCall a c).turns = s.turns := rfl
@[simp] theorem State.logCall_grant (s : State) (a : Agent) (c : SurfaceCall) : (s.logCall a c).grant = s.grant := rfl
@[simp] theorem State.logCall_fifo (s : State) (a : Agent) (c : SurfaceCall) (g : Sel) : (s.logCall a c).fifo g = s.fifo g := by cases g <;> simp [State.fifo]
@[simp] theorem State.logCall_occ (s : State) (a : Agent) (c : SurfaceCall) (g : Sel) : (s.logCall a c).occ g = s.occ g := by simp [State.occ, State.cap]
@[simp] theorem State.logCall_handlerActive (s : State) (a : Agent) (c : SurfaceCall) : (s.logCall a c).handlerActive = s.handlerActive := by simp [State.handlerActive]
@[simp] theorem State.logCall_agentOf (s : State) (a : Agent) (c : SurfaceCall) (u : Who) : (s.logCall a c).agentOf u = s.agentOf u := by cases u <;> simp [State.agentOf]
@[simp] theorem State.logCall_ctx (s : State) (a : Agent) (c : SurfaceCall) (u : Who) : (s.logCall a c).ctx u = s.ctx u := by cases u <;> simp [State.ctx]
@[simp] theorem State.logCall_cap (s : State) (a : Agent) (c : SurfaceCall) (g : Sel) : (s.logCall a c).cap g = s.cap g := by simp [State.cap]

/-! ### `configureUart` -/

@[simp] theorem State.configureUart_cfg (s : State) (a : Agent) : (s.configureUart a).cfg = s.cfg := rfl
@[simp] theorem State.configureUart_tx (s : State) (a : Agent) : (s.configureUart a).tx = s.tx := rfl
@[simp] theorem State.configureUart_rx (s : State) (a : Agent) : (s.configureUart a).rx = s.rx := rfl
@[simp] theorem State.configureUart_stalled (s : State) (a : Agent) : (s.configureUart a).stalled = s.stalled := rfl
@[simp] theorem State.configureUart_fg (s : State) (a : Agent) : (s.configureUart a).fg = s.fg := rfl
@[simp] theorem State.configureUart_txi (s : State) (a : Agent) : (s.configureUart a).txi = s.txi := rfl
@[simp] theorem State.configureUart_rxi (s : State) (a : Agent) : (s.configureUart a).rxi = s.rxi := rfl
@[simp] theorem State.configureUart_rxiSw (s : State) (a : Agent) : (s.configureUart a).rxiSw = s.rxiSw := rfl
@[simp] theorem State.configureUart_call (s : State) (a : Agent) : (s.configureUart a).call = s.call := rfl
@[simp] theorem State.configureUart_boot (s : State) (a : Agent) : (s.configureUart a).boot = s.boot := rfl
@[simp] theorem State.configureUart_per (s : State) (a : Agent) : (s.configureUart a).per = s.per := rfl
@[simp] theorem State.configureUart_oracle (s : State) (a : Agent) : (s.configureUart a).oracle = s.oracle := rfl
@[simp] theorem State.configureUart_draws (s : State) (a : Agent) : (s.configureUart a).draws = s.draws := rfl
@[simp] theorem State.configureUart_clrOrder (s : State) (a : Agent) : (s.configureUart a).clrOrder = s.clrOrder := rfl
@[simp] theorem State.configureUart_markers (s : State) (a : Agent) : (s.configureUart a).markers = s.markers := rfl
@[simp] theorem State.configureUart_cmds (s : State) (a : Agent) : (s.configureUart a).cmds = s.cmds := rfl
@[simp] theorem State.configureUart_turns (s : State) (a : Agent) : (s.configureUart a).turns = s.turns := rfl
@[simp] theorem State.configureUart_grant (s : State) (a : Agent) : (s.configureUart a).grant = s.grant := rfl
@[simp] theorem State.configureUart_fifo (s : State) (a : Agent) (g : Sel) : (s.configureUart a).fifo g = s.fifo g := by cases g <;> simp [State.fifo]
@[simp] theorem State.configureUart_occ (s : State) (a : Agent) (g : Sel) : (s.configureUart a).occ g = s.occ g := by simp [State.occ, State.cap]
@[simp] theorem State.configureUart_handlerActive (s : State) (a : Agent) : (s.configureUart a).handlerActive = s.handlerActive := by simp [State.handlerActive]
@[simp] theorem State.configureUart_agentOf (s : State) (a : Agent) (u : Who) : (s.configureUart a).agentOf u = s.agentOf u := by cases u <;> simp [State.agentOf]
@[simp] theorem State.configureUart_ctx (s : State) (a : Agent) (u : Who) : (s.configureUart a).ctx u = s.ctx u := by cases u <;> simp [State.ctx]
@[simp] theorem State.configureUart_cap (s : State) (a : Agent) (g : Sel) : (s.configureUart a).cap g = s.cap g := by simp [State.cap]

/-! ### `enableTransmit` -/

@[simp] theorem State.enableTransmit_cfg (s : State) (a : Agent) : (s.enableTransmit a).cfg = s.cfg := rfl
@[simp] theorem State.enableTransmit_tx (s : State) (a : Agent) : (s.enableTransmit a).tx = s.tx := rfl
@[simp] theorem State.enableTransmit_rx (s : State) (a : Agent) : (s.enableTransmit a).rx = s.rx := rfl
@[simp] theorem State.enableTransmit_stalled (s : State) (a : Agent) : (s.enableTransmit a).stalled = s.stalled := rfl
@[simp] theorem State.enableTransmit_fg (s : State) (a : Agent) : (s.enableTransmit a).fg = s.fg := rfl
@[simp] theorem State.enableTransmit_txi (s : State) (a : Agent) : (s.enableTransmit a).txi = s.txi := rfl
@[simp] theorem State.enableTransmit_rxi (s : State) (a : Agent) : (s.enableTransmit a).rxi = s.rxi := rfl
@[simp] theorem State.enableTransmit_rxiSw (s : State) (a : Agent) : (s.enableTransmit a).rxiSw = s.rxiSw := rfl
@[simp] theorem State.enableTransmit_call (s : State) (a : Agent) : (s.enableTransmit a).call = s.call := rfl
@[simp] theorem State.enableTransmit_boot (s : State) (a : Agent) : (s.enableTransmit a).boot = s.boot := rfl
@[simp] theorem State.enableTransmit_oracle (s : State) (a : Agent) : (s.enableTransmit a).oracle = s.oracle := rfl
@[simp] theorem State.enableTransmit_draws (s : State) (a : Agent) : (s.enableTransmit a).draws = s.draws := rfl
@[simp] theorem State.enableTransmit_clrOrder (s : State) (a : Agent) : (s.enableTransmit a).clrOrder = s.clrOrder := rfl
@[simp] theorem State.enableTransmit_markers (s : State) (a : Agent) : (s.enableTransmit a).markers = s.markers := rfl
@[simp] theorem State.enableTransmit_cmds (s : State) (a : Agent) : (s.enableTransmit a).cmds = s.cmds := rfl
@[simp] theorem State.enableTransmit_turns (s : State) (a : Agent) : (s.enableTransmit a).turns = s.turns := rfl
@[simp] theorem State.enableTransmit_grant (s : State) (a : Agent) : (s.enableTransmit a).grant = s.grant := rfl
@[simp] theorem State.enableTransmit_fifo (s : State) (a : Agent) (g : Sel) : (s.enableTransmit a).fifo g = s.fifo g := by cases g <;> simp [State.fifo]
@[simp] theorem State.enableTransmit_occ (s : State) (a : Agent) (g : Sel) : (s.enableTransmit a).occ g = s.occ g := by simp [State.occ, State.cap]
@[simp] theorem State.enableTransmit_handlerActive (s : State) (a : Agent) : (s.enableTransmit a).handlerActive = s.handlerActive := by simp [State.handlerActive]
@[simp] theorem State.enableTransmit_agentOf (s : State) (a : Agent) (u : Who) : (s.enableTransmit a).agentOf u = s.agentOf u := by cases u <;> simp [State.agentOf]
@[simp] theorem State.enableTransmit_ctx (s : State) (a : Agent) (u : Who) : (s.enableTransmit a).ctx u = s.ctx u := by cases u <;> simp [State.ctx]
@[simp] theorem State.enableTransmit_cap (s : State) (a : Agent) (g : Sel) : (s.enableTransmit a).cap g = s.cap g := by simp [State.cap]

/-! ### `enableReceive` -/

@[simp] theorem State.enableReceive_cfg (s : State) (a : Agent) : (s.enableReceive a).cfg = s.cfg := rfl
@[simp] theorem State.enableReceive_tx (s : State) (a : Agent) : (s.enableReceive a).tx = s.tx := rfl
@[simp] theorem State.enableReceive_rx (s : State) (a : Agent) : (s.enableReceive a).rx = s.rx := rfl
@[simp] theorem State.enableReceive_stalled (s : State) (a : Agent) : (s.enableReceive a).stalled = s.stalled := rfl
@[simp] theorem State.enableReceive_fg (s : State) (a : Agent) : (s.enableReceive a).fg = s.fg := rfl
@[simp] theorem State.enableReceive_txi (s : State) (a : Agent) : (s.enableReceive a).txi = s.txi := rfl
@[simp] theorem State.enableReceive_rxi (s : State) (a : Agent) : (s.enableReceive a).rxi = s.rxi := rfl
@[simp] theorem State.enableReceive_rxiSw (s : State) (a : Agent) : (s.enableReceive a).rxiSw = s.rxiSw := rfl
@[simp] theorem State.enableReceive_call (s : State) (a : Agent) : (s.enableReceive a).call = s.call := rfl
@[simp] theorem State.enableReceive_boot (s : State) (a : Agent) : (s.enableReceive a).boot = s.boot := rfl
@[simp] theorem State.enableReceive_oracle (s : State) (a : Agent) : (s.enableReceive a).oracle = s.oracle := rfl
@[simp] theorem State.enableReceive_draws (s : State) (a : Agent) : (s.enableReceive a).draws = s.draws := rfl
@[simp] theorem State.enableReceive_clrOrder (s : State) (a : Agent) : (s.enableReceive a).clrOrder = s.clrOrder := rfl
@[simp] theorem State.enableReceive_markers (s : State) (a : Agent) : (s.enableReceive a).markers = s.markers := rfl
@[simp] theorem State.enableReceive_cmds (s : State) (a : Agent) : (s.enableReceive a).cmds = s.cmds := rfl
@[simp] theorem State.enableReceive_turns (s : State) (a : Agent) : (s.enableReceive a).turns = s.turns := rfl
@[simp] theorem State.enableReceive_grant (s : State) (a : Agent) : (s.enableReceive a).grant = s.grant := rfl
@[simp] theorem State.enableReceive_fifo (s : State) (a : Agent) (g : Sel) : (s.enableReceive a).fifo g = s.fifo g := by cases g <;> simp [State.fifo]
@[simp] theorem State.enableReceive_occ (s : State) (a : Agent) (g : Sel) : (s.enableReceive a).occ g = s.occ g := by simp [State.occ, State.cap]
@[simp] theorem State.enableReceive_handlerActive (s : State) (a : Agent) : (s.enableReceive a).handlerActive = s.handlerActive := by simp [State.handlerActive]
@[simp] theorem State.enableReceive_agentOf (s : State) (a : Agent) (u : Who) : (s.enableReceive a).agentOf u = s.agentOf u := by cases u <;> simp [State.agentOf]
@[simp] theorem State.enableReceive_ctx (s : State) (a : Agent) (u : Who) : (s.enableReceive a).ctx u = s.ctx u := by cases u <;> simp [State.ctx]
@[simp] theorem State.enableReceive_cap (s : State) (a : Agent) (g : Sel) : (s.enableReceive a).cap g = s.cap g := by simp [State.cap]

/-! ### `acknowledgeTransmit` -/

@[simp] theorem State.acknowledgeTransmit_cfg (s : State) (a : Agent) : (s.acknowledgeTransmit a).cfg = s.cfg := rfl
@[simp] theorem State.acknowledgeTransmit_tx (s : State) (a : Agent) : (s.acknowledgeTransmit a).tx = s.tx := rfl
@[simp] theorem State.acknowledgeTransmit_rx (s : State) (a : Agent) : (s.acknowledgeTransmit a).rx = s.rx := rfl
@[simp] theorem State.acknowledgeTransmit_stalled (s : State) (a : Agent) : (s.acknowledgeTransmit a).stalled = s.stalled := rfl
@[simp] theorem State.acknowledgeTransmit_fg (s : State) (a : Agent) : (s.acknowledgeTransmit a).fg = s.fg := rfl
@[simp] theorem State.acknowledgeTransmit_txi (s : State) (a : Agent) : (s.acknowledgeTransmit a).txi = s.txi := rfl
@[simp] theorem State.acknowledgeTransmit_rxi (s : State) (a : Agent) : (s.acknowledgeTransmit a).rxi = s.rxi := rfl
@[simp] theorem State.acknowledgeTransmit_rxiSw (s : State) (a : Agent) : (s.acknowledgeTransmit a).rxiSw = s.rxiSw := rfl
@[simp] theorem State.acknowledgeTransmit_call (s : State) (a : Agent) : (s.acknowledgeTransmit a).call = s.call := rfl
@[simp] theorem State.acknowledgeTransmit_boot (s : State) (a : Agent) : (s.acknowledgeTransmit a).boot = s.boot := rfl
@[simp] theorem State.acknowledgeTransmit_oracle (s : State) (a : Agent) : (s.acknowledgeTransmit a).oracle = s.oracle := rfl
@[simp] theorem State.acknowledgeTransmit_draws (s : State) (a : Agent) : (s.acknowledgeTransmit a).draws = s.draws := rfl
@[simp] theorem State.acknowledgeTransmit_clrOrder (s : State) (a : Agent) : (s.acknowledgeTransmit a).clrOrder = s.clrOrder := rfl
@[simp] theorem State.acknowledgeTransmit_markers (s : State) (a : Agent) : (s.acknowledgeTransmit a).markers = s.markers := rfl
@[simp] theorem State.acknowledgeTransmit_cmds (s : State) (a : Agent) : (s.acknowledgeTransmit a).cmds = s.cmds := rfl
@[simp] theorem State.acknowledgeTransmit_turns (s : State) (a : Agent) : (s.acknowledgeTransmit a).turns = s.turns := rfl
@[simp] theorem State.acknowledgeTransmit_grant (s : State) (a : Agent) : (s.acknowledgeTransmit a).grant = s.grant := rfl
@[simp] theorem State.acknowledgeTransmit_fifo (s : State) (a : Agent) (g : Sel) : (s.acknowledgeTransmit a).fifo g = s.fifo g := by cases g <;> simp [State.fifo]
@[simp] theorem State.acknowledgeTransmit_occ (s : State) (a : Agent) (g : Sel) : (s.acknowledgeTransmit a).occ g = s.occ g := by simp [State.occ, State.cap]
@[simp] theorem State.acknowledgeTransmit_handlerActive (s : State) (a : Agent) : (s.acknowledgeTransmit a).handlerActive = s.handlerActive := by simp [State.handlerActive]
@[simp] theorem State.acknowledgeTransmit_agentOf (s : State) (a : Agent) (u : Who) : (s.acknowledgeTransmit a).agentOf u = s.agentOf u := by cases u <;> simp [State.agentOf]
@[simp] theorem State.acknowledgeTransmit_ctx (s : State) (a : Agent) (u : Who) : (s.acknowledgeTransmit a).ctx u = s.ctx u := by cases u <;> simp [State.ctx]
@[simp] theorem State.acknowledgeTransmit_cap (s : State) (a : Agent) (g : Sel) : (s.acknowledgeTransmit a).cap g = s.cap g := by simp [State.cap]

/-! ### `acknowledgeReceive` -/

@[simp] theorem State.acknowledgeReceive_cfg (s : State) (a : Agent) : (s.acknowledgeReceive a).cfg = s.cfg := rfl
@[simp] theorem State.acknowledgeReceive_tx (s : State) (a : Agent) : (s.acknowledgeReceive a).tx = s.tx := rfl
@[simp] theorem State.acknowledgeReceive_rx (s : State) (a : Agent) : (s.acknowledgeReceive a).rx = s.rx := rfl
@[simp] theorem State.acknowledgeReceive_stalled (s : State) (a : Agent) : (s.acknowledgeReceive a).stalled = s.stalled := rfl
@[simp] theorem State.acknowledgeReceive_fg (s : State) (a : Agent) : (s.acknowledgeReceive a).fg = s.fg := rfl
@[simp] theorem State.acknowledgeReceive_txi (s : State) (a : Agent) : (s.acknowledgeReceive a).txi = s.txi := rfl
@[simp] theorem State.acknowledgeReceive_rxi (s : State) (a : Agent) : (s.acknowledgeReceive a).rxi = s.rxi := rfl
@[simp] theorem State.acknowledgeReceive_rxiSw (s : State) (a : Agent) : (s.acknowledgeReceive a).rxiSw = s.rxiSw := rfl
@[simp] theorem State.acknowledgeReceive_call (s : State) (a : Agent) : (s.acknowledgeReceive a).call = s.call := rfl
@[simp] theorem State.acknowledgeReceive_boot (s : State) (a : Agent) : (s.acknowledgeReceive a).boot = s.boot := rfl
@[simp] theorem State.acknowledgeReceive_oracle (s : State) (a : Agent) : (s.acknowledgeReceive a).oracle = s.oracle := rfl
@[simp] theorem State.acknowledgeReceive_draws (s : State) (a : Agent) : (s.acknowledgeReceive a).draws = s.draws := rfl
@[simp] theorem State.acknowledgeReceive_clrOrder (s : State) (a : Agent) : (s.acknowledgeReceive a).clrOrder = s.clrOrder := rfl
@[simp] theorem State.acknowledgeReceive_markers (s : State) (a : Agent) : (s.acknowledgeReceive a).markers = s.markers := rfl
@[simp] theorem State.acknowledgeReceive_cmds (s : State) (a : Agent) : (s.acknowledgeReceive a).cmds = s.cmds := rfl
@[simp] theorem State.acknowledgeReceive_turns (s : State) (a : Agent) : (s.acknowledgeReceive a).turns = s.turns := rfl
@[simp] theorem State.acknowledgeReceive_grant (s : State) (a : Agent) : (s.acknowledgeReceive a).grant = s.grant := rfl
@[simp] theorem State.acknowledgeReceive_fifo (s : State) (a : Agent) (g : Sel) : (s.acknowledgeReceive a).fifo g = s.fifo g := by cases g <;> simp [State.fifo]
@[simp] theorem State.acknowledgeReceive_occ (s : State) (a : Agent) (g : Sel) : (s.acknowledgeReceive a).occ g = s.occ g := by simp [State.occ, State.cap]
@[simp] theorem State.acknowledgeReceive_handlerActive (s : State) (a : Agent) : (s.acknowledgeReceive a).handlerActive = s.handlerActive := by simp [State.handlerActive]
@[simp] theorem State.acknowledgeReceive_agentOf (s : State) (a : Agent) (u : Who) : (s.acknowledgeReceive a).agentOf u = s.agentOf u := by cases u <;> simp [State.agentOf]
@[simp] theorem State.acknowledgeReceive_ctx (s : State) (a : Agent) (u : Who) : (s.acknowledgeReceive a).ctx u = s.ctx u := by cases u <;> simp [State.ctx]
@[simp] theorem State.acknowledgeReceive_cap (s : State) (a : Agent) (g : Sel) : (s.acknowledgeReceive a).cap g = s.cap g := by simp [State.cap]

/-! ### `clearErrorLatch` -/

@[simp] theorem State.clearErrorLatch_cfg (s : State) (a : Agent) : (s.clearErrorLatch a).cfg = s.cfg := rfl
@[simp] theorem State.clearErrorLatch_tx (s : State) (a : Agent) : (s.clearErrorLatch a).tx = s.tx := rfl
@[simp] theorem State.clearErrorLatch_rx (s : State) (a : Agent) : (s.clearErrorLatch a).rx = s.rx := rfl
@[simp] theorem State.clearErrorLatch_stalled (s : State) (a : Agent) : (s.clearErrorLatch a).stalled = s.stalled := rfl
@[simp] theorem State.clearErrorLatch_fg (s : State) (a : Agent) : (s.clearErrorLatch a).fg = s.fg := rfl
@[simp] theorem State.clearErrorLatch_txi (s : State) (a : Agent) : (s.clearErrorLatch a).txi = s.txi := rfl
@[simp] theorem State.clearErrorLatch_rxi (s : State) (a : Agent) : (s.clearErrorLatch a).rxi = s.rxi := rfl
@[simp] theorem State.clearErrorLatch_rxiSw (s : State) (a : Agent) : (s.clearErrorLatch a).rxiSw = s.rxiSw := rfl
@[simp] theorem State.clearErrorLatch_call (s : State) (a : Agent) : (s.clearErrorLatch a).call = s.call := rfl
@[simp] theorem State.clearErrorLatch_boot (s : State) (a : Agent) : (s.clearErrorLatch a).boot = s.boot := rfl
@[simp] theorem State.clearErrorLatch_oracle (s : State) (a : Agent) : (s.clearErrorLatch a).oracle = s.oracle := rfl
@[simp] theorem State.clearErrorLatch_draws (s : State) (a : Agent) : (s.clearErrorLatch a).draws = s.draws := rfl
@[simp] theorem State.clearErrorLatch_clrOrder (s : State) (a : Agent) : (s.clearErrorLatch a).clrOrder = s.clrOrder := rfl
@[simp] theorem State.clearErrorLatch_markers (s : State) (a : Agent) : (s.clearErrorLatch a).markers = s.markers := rfl
@[simp] theorem State.clearErrorLatch_cmds (s : State) (a : Agent) : (s.clearErrorLatch a).cmds = s.cmds := rfl
@[simp] theorem State.clearErrorLatch_turns (s : State) (a : Agent) : (s.clearErrorLatch a).turns = s.turns := rfl
@[simp] theorem State.clearErrorLatch_grant (s : State) (a : Agent) : (s.clearErrorLatch a).grant = s.grant := rfl
@[simp] theorem State.clearErrorLatch_fifo (s : State) (a : Agent) (g : Sel) : (s.clearErrorLatch a).fifo g = s.fifo g := by cases g <;> simp [State.fifo]
@[simp] theorem State.clearErrorLatch_occ (s : State) (a : Agent) (g : Sel) : (s.clearErrorLatch a).occ g = s.occ g := by simp [State.occ, State.cap]
@[simp] theorem State.clearErrorLatch_handlerActive (s : State) (a : Agent) : (s.clearErrorLatch a).handlerActive = s.handlerActive := by simp [State.handlerActive]
@[simp] theorem State.clearErrorLatch_agentOf (s : State) (a : Agent) (u : Who) : (s.clearErrorLatch a).agentOf u = s.agentOf u := by cases u <;> simp [State.agentOf]
@[simp] theorem State.clearErrorLatch_ctx (s : State) (a : Agent) (u : Who) : (s.clearErrorLatch a).ctx u = s.ctx u := by cases u <;> simp [State.ctx]
@[simp] theorem State.clearErrorLatch_cap (s : State) (a : Agent) (g : Sel) : (s.clearErrorLatch a).cap g = s.cap g := by simp [State.cap]

/-! ### `writeData` -/

@[simp] theorem State.writeData_cfg (s : State) (a : Agent) (v : Byte) : (s.writeData a v).cfg = s.cfg := by unfold State.writeData; split <;> [skip; split] <;> simp
@[simp] theorem State.writeData_tx (s : State) (a : Agent) (v : Byte) : (s.writeData a v).tx = s.tx := by unfold State.writeData; split <;> [skip; split] <;> simp
@[simp] theorem State.writeData_rx (s : State) (a : Agent) (v : Byte) : (s.writeData a v).rx = s.rx := by unfold State.writeData; split <;> [skip; split] <;> simp
@[simp] theorem State.writeData_stalled (s : State) (a : Agent) (v : Byte) : (s.writeData a v).stalled = s.stalled := by unfold State.writeData; split <;> [skip; split] <;> simp
@[simp] theorem State.writeData_fg (s : State) (a : Agent) (v : Byte) : (s.writeData a v).fg = s.fg := by unfold State.writeData; split <;> [skip; split] <;> simp
@[simp] theorem State.writeData_txi (s : State) (a : Agent) (v : Byte) : (s.writeData a v).txi = s.txi := by unfold State.writeData; split <;> [skip; split] <;> simp
@[simp] theorem State.writeData_rxi (s : State) (a : Agent) (v : Byte) : (s.writeData a v).rxi = s.rxi := by unfold State.writeData; split <;> [skip; split] <;> simp
@[simp] theorem State.writeData_rxiSw (s : State) (a : Agent) (v : Byte) : (s.writeData a v).rxiSw = s.rxiSw := by unfold State.writeData; split <;> [skip; split] <;> simp
@[simp] theorem State.writeData_call (s : State) (a : Agent) (v : Byte) : (s.writeData a v).call = s.call := by unfold State.writeData; split <;> [skip; split] <;> simp
@[simp] theorem State.writeData_boot (s : State) (a : Agent) (v : Byte) : (s.writeData a v).boot = s.boot := by unfold State.writeData; split <;> [skip; split] <;> simp
@[simp] theorem State.writeData_oracle (s : State) (a : Agent) (v : Byte) : (s.writeData a v).oracle = s.oracle := by unfold State.writeData; split <;> [skip; split] <;> simp
@[simp] theorem State.writeData_draws (s : State) (a : Agent) (v : Byte) : (s.writeData a v).draws = s.draws := by unfold State.writeData; split <;> [skip; split] <;> simp
@[simp] theorem State.writeData_clrOrder (s : State) (a : Agent) (v : Byte) : (s.writeData a v).clrOrder = s.clrOrder := by unfold State.writeData; split <;> [skip; split] <;> simp
@[simp] theorem State.writeData_cmds (s : State) (a : Agent) (v : Byte) : (s.writeData a v).cmds = s.cmds := by unfold State.writeData; split <;> [skip; split] <;> simp
@[simp] theorem State.writeData_turns (s : State) (a : Agent) (v : Byte) : (s.writeData a v).turns = s.turns := by unfold State.writeData; split <;> [skip; split] <;> simp
@[simp] theorem State.writeData_grant (s : State) (a : Agent) (v : Byte) : (s.writeData a v).grant = s.grant := by unfold State.writeData; split <;> [skip; split] <;> simp
@[simp] theorem State.writeData_fifo (s : State) (a : Agent) (v : Byte) (g : Sel) : (s.writeData a v).fifo g = s.fifo g := by cases g <;> simp [State.fifo]
@[simp] theorem State.writeData_occ (s : State) (a : Agent) (v : Byte) (g : Sel) : (s.writeData a v).occ g = s.occ g := by simp [State.occ, State.cap]
@[simp] theorem State.writeData_handlerActive (s : State) (a : Agent) (v : Byte) : (s.writeData a v).handlerActive = s.handlerActive := by simp [State.handlerActive]
@[simp] theorem State.writeData_agentOf (s : State) (a : Agent) (v : Byte) (u : Who) : (s.writeData a v).agentOf u = s.agentOf u := by cases u <;> simp [State.agentOf]
@[simp] theorem State.writeData_ctx (s : State) (a : Agent) (v : Byte) (u : Who) : (s.writeData a v).ctx u = s.ctx u := by cases u <;> simp [State.ctx]
@[simp] theorem State.writeData_cap (s : State) (a : Agent) (v : Byte) (g : Sel) : (s.writeData a v).cap g = s.cap g := by simp [State.cap]

/-! ### `pollTxEmpty` -/

@[simp] theorem State.pollTxEmpty_cfg (s : State) (a : Agent) : (s.pollTxEmpty a).cfg = s.cfg := by unfold State.pollTxEmpty; split <;> [skip; split] <;> simp
@[simp] theorem State.pollTxEmpty_tx (s : State) (a : Agent) : (s.pollTxEmpty a).tx = s.tx := by unfold State.pollTxEmpty; split <;> [skip; split] <;> simp
@[simp] theorem State.pollTxEmpty_rx (s : State) (a : Agent) : (s.pollTxEmpty a).rx = s.rx := by unfold State.pollTxEmpty; split <;> [skip; split] <;> simp
@[simp] theorem State.pollTxEmpty_stalled (s : State) (a : Agent) : (s.pollTxEmpty a).stalled = s.stalled := by unfold State.pollTxEmpty; split <;> [skip; split] <;> simp
@[simp] theorem State.pollTxEmpty_fg (s : State) (a : Agent) : (s.pollTxEmpty a).fg = s.fg := by unfold State.pollTxEmpty; split <;> [skip; split] <;> simp
@[simp] theorem State.pollTxEmpty_txi (s : State) (a : Agent) : (s.pollTxEmpty a).txi = s.txi := by unfold State.pollTxEmpty; split <;> [skip; split] <;> simp
@[simp] theorem State.pollTxEmpty_rxi (s : State) (a : Agent) : (s.pollTxEmpty a).rxi = s.rxi := by unfold State.pollTxEmpty; split <;> [skip; split] <;> simp
@[simp] theorem State.pollTxEmpty_rxiSw (s : State) (a : Agent) : (s.pollTxEmpty a).rxiSw = s.rxiSw := by unfold State.pollTxEmpty; split <;> [skip; split] <;> simp
@[simp] theorem State.pollTxEmpty_call (s : State) (a : Agent) : (s.pollTxEmpty a).call = s.call := by unfold State.pollTxEmpty; split <;> [skip; split] <;> simp
@[simp] theorem State.pollTxEmpty_boot (s : State) (a : Agent) : (s.pollTxEmpty a).boot = s.boot := by unfold State.pollTxEmpty; split <;> [skip; split] <;> simp
@[simp] theorem State.pollTxEmpty_per (s : State) (a : Agent) : (s.pollTxEmpty a).per = s.per := by unfold State.pollTxEmpty; split <;> [skip; split] <;> simp
@[simp] theorem State.pollTxEmpty_clrOrder (s : State) (a : Agent) : (s.pollTxEmpty a).clrOrder = s.clrOrder := by unfold State.pollTxEmpty; split <;> [skip; split] <;> simp
@[simp] theorem State.pollTxEmpty_markers (s : State) (a : Agent) : (s.pollTxEmpty a).markers = s.markers := by unfold State.pollTxEmpty; split <;> [skip; split] <;> simp
@[simp] theorem State.pollTxEmpty_cmds (s : State) (a : Agent) : (s.pollTxEmpty a).cmds = s.cmds := by unfold State.pollTxEmpty; split <;> [skip; split] <;> simp
@[simp] theorem State.pollTxEmpty_turns (s : State) (a : Agent) : (s.pollTxEmpty a).turns = s.turns := by unfold State.pollTxEmpty; split <;> [skip; split] <;> simp
@[simp] theorem State.pollTxEmpty_grant (s : State) (a : Agent) : (s.pollTxEmpty a).grant = s.grant := by unfold State.pollTxEmpty; split <;> [skip; split] <;> simp
@[simp] theorem State.pollTxEmpty_fifo (s : State) (a : Agent) (g : Sel) : (s.pollTxEmpty a).fifo g = s.fifo g := by cases g <;> simp [State.fifo]
@[simp] theorem State.pollTxEmpty_occ (s : State) (a : Agent) (g : Sel) : (s.pollTxEmpty a).occ g = s.occ g := by simp [State.occ, State.cap]
@[simp] theorem State.pollTxEmpty_handlerActive (s : State) (a : Agent) : (s.pollTxEmpty a).handlerActive = s.handlerActive := by simp [State.handlerActive]
@[simp] theorem State.pollTxEmpty_agentOf (s : State) (a : Agent) (u : Who) : (s.pollTxEmpty a).agentOf u = s.agentOf u := by cases u <;> simp [State.agentOf]
@[simp] theorem State.pollTxEmpty_ctx (s : State) (a : Agent) (u : Who) : (s.pollTxEmpty a).ctx u = s.ctx u := by cases u <;> simp [State.ctx]
@[simp] theorem State.pollTxEmpty_cap (s : State) (a : Agent) (g : Sel) : (s.pollTxEmpty a).cap g = s.cap g := by simp [State.cap]

/-! ### `readStatus` -/

@[simp] theorem State.readStatus_cfg (s : State) (a : Agent) : (s.readStatus a).cfg = s.cfg := by unfold State.readStatus; split <;> [skip; split] <;> simp
@[simp] theorem State.readStatus_tx (s : State) (a : Agent) : (s.readStatus a).tx = s.tx := by unfold State.readStatus; split <;> [skip; split] <;> simp
@[simp] theorem State.readStatus_rx (s : State) (a : Agent) : (s.readStatus a).rx = s.rx := by unfold State.readStatus; split <;> [skip; split] <;> simp
@[simp] theorem State.readStatus_stalled (s : State) (a : Agent) : (s.readStatus a).stalled = s.stalled := by unfold State.readStatus; split <;> [skip; split] <;> simp
@[simp] theorem State.readStatus_fg (s : State) (a : Agent) : (s.readStatus a).fg = s.fg := by unfold State.readStatus; split <;> [skip; split] <;> simp
@[simp] theorem State.readStatus_txi (s : State) (a : Agent) : (s.readStatus a).txi = s.txi := by unfold State.readStatus; split <;> [skip; split] <;> simp
@[simp] theorem State.readStatus_rxi (s : State) (a : Agent) : (s.readStatus a).rxi = s.rxi := by unfold State.readStatus; split <;> [skip; split] <;> simp
@[simp] theorem State.readStatus_call (s : State) (a : Agent) : (s.readStatus a).call = s.call := by unfold State.readStatus; split <;> [skip; split] <;> simp
@[simp] theorem State.readStatus_boot (s : State) (a : Agent) : (s.readStatus a).boot = s.boot := by unfold State.readStatus; split <;> [skip; split] <;> simp
@[simp] theorem State.readStatus_per (s : State) (a : Agent) : (s.readStatus a).per = s.per := by unfold State.readStatus; split <;> [skip; split] <;> simp
@[simp] theorem State.readStatus_clrOrder (s : State) (a : Agent) : (s.readStatus a).clrOrder = s.clrOrder := by unfold State.readStatus; split <;> [skip; split] <;> simp
@[simp] theorem State.readStatus_markers (s : State) (a : Agent) : (s.readStatus a).markers = s.markers := by unfold State.readStatus; split <;> [skip; split] <;> simp
@[simp] theorem State.readStatus_cmds (s : State) (a : Agent) : (s.readStatus a).cmds = s.cmds := by unfold State.readStatus; split <;> [skip; split] <;> simp
@[simp] theorem State.readStatus_turns (s : State) (a : Agent) : (s.readStatus a).turns = s.turns := by unfold State.readStatus; split <;> [skip; split] <;> simp
@[simp] theorem State.readStatus_grant (s : State) (a : Agent) : (s.readStatus a).grant = s.grant := by unfold State.readStatus; split <;> [skip; split] <;> simp
@[simp] theorem State.readStatus_fifo (s : State) (a : Agent) (g : Sel) : (s.readStatus a).fifo g = s.fifo g := by cases g <;> simp [State.fifo]
@[simp] theorem State.readStatus_occ (s : State) (a : Agent) (g : Sel) : (s.readStatus a).occ g = s.occ g := by simp [State.occ, State.cap]
@[simp] theorem State.readStatus_handlerActive (s : State) (a : Agent) : (s.readStatus a).handlerActive = s.handlerActive := by simp [State.handlerActive]
@[simp] theorem State.readStatus_agentOf (s : State) (a : Agent) (u : Who) : (s.readStatus a).agentOf u = s.agentOf u := by cases u <;> simp [State.agentOf]
@[simp] theorem State.readStatus_ctx (s : State) (a : Agent) (u : Who) : (s.readStatus a).ctx u = s.ctx u := by cases u <;> simp [State.ctx]
@[simp] theorem State.readStatus_cap (s : State) (a : Agent) (g : Sel) : (s.readStatus a).cap g = s.cap g := by simp [State.cap]

/-! ### `perStep` -/

@[simp] theorem State.perStep_cfg (s : State) (p : PerStep) : (s.perStep p).cfg = s.cfg := by unfold State.perStep; repeat' (first | rfl | split)
@[simp] theorem State.perStep_tx (s : State) (p : PerStep) : (s.perStep p).tx = s.tx := by unfold State.perStep; repeat' (first | rfl | split)
@[simp] theorem State.perStep_rx (s : State) (p : PerStep) : (s.perStep p).rx = s.rx := by unfold State.perStep; repeat' (first | rfl | split)
@[simp] theorem State.perStep_stalled (s : State) (p : PerStep) : (s.perStep p).stalled = s.stalled := by unfold State.perStep; repeat' (first | rfl | split)
@[simp] theorem State.perStep_fg (s : State) (p : PerStep) : (s.perStep p).fg = s.fg := by unfold State.perStep; repeat' (first | rfl | split)
@[simp] theorem State.perStep_txi (s : State) (p : PerStep) : (s.perStep p).txi = s.txi := by unfold State.perStep; repeat' (first | rfl | split)
@[simp] theorem State.perStep_rxi (s : State) (p : PerStep) : (s.perStep p).rxi = s.rxi := by unfold State.perStep; repeat' (first | rfl | split)
@[simp] theorem State.perStep_rxiSw (s : State) (p : PerStep) : (s.perStep p).rxiSw = s.rxiSw := by unfold State.perStep; repeat' (first | rfl | split)
@[simp] theorem State.perStep_call (s : State) (p : PerStep) : (s.perStep p).call = s.call := by unfold State.perStep; repeat' (first | rfl | split)
@[simp] theorem State.perStep_boot (s : State) (p : PerStep) : (s.perStep p).boot = s.boot := by unfold State.perStep; repeat' (first | rfl | split)
@[simp] theorem State.perStep_oracle (s : State) (p : PerStep) : (s.perStep p).oracle = s.oracle := by unfold State.perStep; repeat' (first | rfl | split)
@[simp] theorem State.perStep_draws (s : State) (p : PerStep) : (s.perStep p).draws = s.draws := by unfold State.perStep; repeat' (first | rfl | split)
@[simp] theorem State.perStep_clrOrder (s : State) (p : PerStep) : (s.perStep p).clrOrder = s.clrOrder := by unfold State.perStep; repeat' (first | rfl | split)
@[simp] theorem State.perStep_markers (s : State) (p : PerStep) : (s.perStep p).markers = s.markers := by unfold State.perStep; repeat' (first | rfl | split)
@[simp] theorem State.perStep_trace (s : State) (p : PerStep) : (s.perStep p).trace = s.trace := by unfold State.perStep; repeat' (first | rfl | split)
@[simp] theorem State.perStep_cmds (s : State) (p : PerStep) : (s.perStep p).cmds = s.cmds := by unfold State.perStep; repeat' (first | rfl | split)
@[simp] theorem State.perStep_turns (s : State) (p : PerStep) : (s.perStep p).turns = s.turns := by unfold State.perStep; repeat' (first | rfl | split)
@[simp] theorem State.perStep_grant (s : State) (p : PerStep) : (s.perStep p).grant = s.grant := by unfold State.perStep; repeat' (first | rfl | split)
@[simp] theorem State.perStep_fifo (s : State) (p : PerStep) (g : Sel) : (s.perStep p).fifo g = s.fifo g := by cases g <;> simp [State.fifo]
@[simp] theorem State.perStep_occ (s : State) (p : PerStep) (g : Sel) : (s.perStep p).occ g = s.occ g := by simp [State.occ, State.cap]
@[simp] theorem State.perStep_handlerActive (s : State) (p : PerStep) : (s.perStep p).handlerActive = s.handlerActive := by simp [State.handlerActive]
@[simp] theorem State.perStep_agentOf (s : State) (p : PerStep) (u : Who) : (s.perStep p).agentOf u = s.agentOf u := by cases u <;> simp [State.agentOf]
@[simp] theorem State.perStep_ctx (s : State) (p : PerStep) (u : Who) : (s.perStep p).ctx u = s.ctx u := by cases u <;> simp [State.ctx]
@[simp] theorem State.perStep_cap (s : State) (p : PerStep) (g : Sel) : (s.perStep p).cap g = s.cap g := by simp [State.cap]

/-! ### `finishClear` -/

@[simp] theorem finishClear_cfg (s : State) (w : Who) : (finishClear w s).cfg = s.cfg := by simp [finishClear]
@[simp] theorem finishClear_tx (s : State) (w : Who) : (finishClear w s).tx = s.tx := by simp [finishClear]
@[simp] theorem finishClear_rx (s : State) (w : Who) : (finishClear w s).rx = s.rx := by simp [finishClear]
@[simp] theorem finishClear_stalled (s : State) (w : Who) : (finishClear w s).stalled = s.stalled := by simp [finishClear]
@[simp] theorem finishClear_rxiSw (s : State) (w : Who) : (finishClear w s).rxiSw = s.rxiSw := by simp [finishClear]
@[simp] theorem finishClear_boot (s : State) (w : Who) : (finishClear w s).boot = s.boot := by simp [finishClear]
@[simp] theorem finishClear_per (s : State) (w : Who) : (finishClear w s).per = s.per := by simp [finishClear]
@[simp] theorem finishClear_oracle (s : State) (w : Who) : (finishClear w s).oracle = s.oracle := by simp [finishClear]
@[simp] theorem finishClear_draws (s : State) (w : Who) : (finishClear w s).draws = s.draws := by simp [finishClear]
@[simp] theorem finishClear_clrOrder (s : State) (w : Who) : (finishClear w s).clrOrder = s.clrOrder := by simp [finishClear]
@[simp] theorem finishClear_markers (s : State) (w : Who) : (finishClear w s).markers = s.markers := by simp [finishClear]
@[simp] theorem finishClear_trace (s : State) (w : Who) : (finishClear w s).trace = s.trace := by simp [finishClear]
@[simp] theorem finishClear_cmds (s : State) (w : Who) : (finishClear w s).cmds = s.cmds := by simp [finishClear]
@[simp] theorem finishClear_turns (s : State) (w : Who) : (finishClear w s).turns = s.turns := by simp [finishClear]
@[simp] theorem finishClear_grant (s : State) (w : Who) : (finishClear w s).grant = s.grant := by simp [finishClear]
@[simp] theorem finishClear_fifo (s : State) (w : Who) (g : Sel) : (finishClear w s).fifo g = s.fifo g := by cases g <;> simp [State.fifo]
@[simp] theorem finishClear_occ (s : State) (w : Who) (g : Sel) : (finishClear w s).occ g = s.occ g := by simp [State.occ, State.cap]
@[simp] theorem finishClear_cap (s : State) (w : Who) (g : Sel) : (finishClear w s).cap g = s.cap g := by simp [State.cap]

/-! ### Contexts -/

@[simp] theorem State.goto_ctx (s : State) (w : Who) (p : Phase) : (s.goto w p).ctx w = { s.ctx w with pc := p } := by
  simp [State.goto]
@[simp] theorem State.ret_ctx (s : State) (w : Who) : (s.ret w).ctx w = { s.ctx w with pc := (s.ctx w).ret } := by
  simp [State.ret]
@[simp] theorem State.callResume_ctx (s : State) (w : Who) (r : Phase) :
    (s.callResume w r).ctx w = { s.ctx w with pc := .s1, ret := r } := by
  simp [State.callResume]
@[simp] theorem State.callPut_ctx (s : State) (w : Who) (f : Sel) (b : Byte) (r : Phase) :
    (s.callPut w f b r).ctx w = { s.ctx w with pc := .p1, sel := f, b := b, ret := r } := by
  simp [State.callPut]
@[simp] theorem State.callGet_ctx (s : State) (w : Who) (f : Sel) (r : Phase) :
    (s.callGet w f r).ctx w = { s.ctx w with pc := .g1, sel := f, ret := r } := by
  simp [State.callGet]
@[simp] theorem State.leaveHandler_ctx (s : State) (w : Who) : (s.leaveHandler w).ctx w = { s.ctx w with pc := .idle } := by
  simp [State.leaveHandler]
/-- G1 latches the slot's value, or the free value (R56, R106). -/
@[simp] theorem State.readSlot_ctx (s : State) (w : Who) (f : Sel) :
    (s.readSlot w f).ctx w = { s.ctx w with v := s.slotValue f } := by
  unfold State.readSlot State.slotValue
  split <;> simp [*]

/-! ### The dequeue's second action -/

/-- G2 answers a next state in two ways: it takes one counted element, or, the count being 0 and the policy `stale`, it
moves the index and records the marker (R106, R111). -/
theorem State.advanceGet_next {s t : State} {f : Sel} (h : s.advanceGet f = .next t) :
    ((s.fifo f).cnt ≠ 0 ∧ t = s.setFifo f
      { s.fifo f with get := inc (s.mode f) (s.cap f) (s.fifo f).get, cnt := (s.fifo f).cnt - 1 }) ∨
    ((s.fifo f).cnt = 0 ∧ s.cfg.emptyGet = .stale ∧
      t = (s.setFifo f { s.fifo f with get := inc (s.mode f) (s.cap f) (s.fifo f).get }).mark (.emptyGet f)) := by
  unfold State.advanceGet at h
  split at h
  · rename_i h0
    split at h
    · rename_i hp
      exact Or.inr ⟨h0, hp, (Host.Outcome.next.inj h).symm⟩
    · cases h
  · rename_i h0
    exact Or.inl ⟨h0, (Host.Outcome.next.inj h).symm⟩

/-- G2 stops only by the `fault` policy, on an empty FIFO (R111). -/
theorem State.advanceGet_fault {s : State} {f : Sel} {e : Fault} (h : s.advanceGet f = .fault e) :
    (s.fifo f).cnt = 0 ∧ s.cfg.emptyGet = .fault ∧ e = .emptyGet f := by
  unfold State.advanceGet at h
  split at h
  · rename_i h0
    split at h
    · cases h
    · rename_i hp
      exact ⟨h0, hp, (Host.Outcome.fault.inj h).symm⟩
  · cases h

/-- G2 refuses nothing. -/
theorem State.advanceGet_refused {s : State} {f : Sel} {e : Refusal} : s.advanceGet f ≠ .refused e := by
  unfold State.advanceGet
  split
  · split <;> intro h <;> cases h
  · intro h; cases h

end Sys2Proof.Machine
end

