-- ==== Sys2Proof/Laws/Run.lean ====
section
/-! SUPPORT. What a slice of atomic actions, an issued command and a step can do: sequencing, the induction over a slice, and
the inversions of `issue`, `answer`, `startHandler`, `exec` and `step`. -/

namespace Sys2Proof.Machine

/-! ### Sequencing -/

@[simp] theorem andThen_next (s : State) (k : State → Result) : andThen (.next s) k = k s := rfl
@[simp] theorem andThen_fault (e : Fault) (k : State → Result) : andThen (.fault e) k = .fault e := rfl
@[simp] theorem andThen_refused (e : Refusal) (k : State → Result) : andThen (.refused e) k = .refused e := rfl

/-- A sequence answers a next state only through a next state of its first part. -/
theorem andThen_eq_next {r : Result} {k : State → Result} {t : State} (h : andThen r k = .next t) :
    ∃ u, r = .next u ∧ k u = .next t := by
  cases r with
  | next u => exact ⟨u, rfl, h⟩
  | fault e => cases h
  | refused e => cases h

/-- The dequeue's second action with its continuation: a next state comes from `advanceGet`'s. -/
theorem actAdvance_next {f : Sel} {k : State → State} {s t : State} (h : actAdvance f k s = .next t) :
    ∃ u, s.advanceGet f = .next u ∧ t = k u := by
  obtain ⟨u, hu, hk⟩ := andThen_eq_next h
  exact ⟨u, hu, (Host.Outcome.next.inj hk).symm⟩

/-! ### Slices -/

@[simp] theorem runCtx_zero (w : Who) (s : State) : runCtx w 0 s = .next s := rfl

@[simp] theorem runTo_zero (stop : Phase) (w : Who) (s : State) : runTo stop w 0 s = .next s := rfl

theorem runTo_succ (stop : Phase) (w : Who) (n : Nat) (s : State) :
    runTo stop w (n + 1) s = if (s.ctx w).pc = stop then .next s else andThen (act w s) (runTo stop w n) := rfl

/-- A context at the stop makes no action. -/
theorem runTo_stop {stop : Phase} {w : Who} {s : State} (h : (s.ctx w).pc = stop) (n : Nat) :
    runTo stop w n s = .next s := by
  cases n with
  | zero => rfl
  | succ m => rw [runTo_succ, if_pos h]

theorem runCtx_succ (w : Who) (n : Nat) (s : State) :
    runCtx w (n + 1) s = if (s.ctx w).pc = .idle then .next s else andThen (act w s) (runCtx w n) := rfl

/-- A context in `IDLE` makes no action. -/
theorem runCtx_idle {w : Who} {s : State} (h : (s.ctx w).pc = .idle) (n : Nat) : runCtx w n s = .next s :=
  runTo_stop h n

/-- What every action of a context keeps, a slice of its actions keeps. -/
theorem runTo_keeps {P : State → Prop} {stop : Phase} {w : Who} (hact : ∀ s t, P s → act w s = .next t → P t)
    (n : Nat) : ∀ {s t : State}, P s → runTo stop w n s = .next t → P t := by
  induction n with
  | zero =>
    intro s t hs h
    exact Host.Outcome.next.inj h ▸ hs
  | succ m ih =>
    intro s t hs h
    rw [runTo_succ] at h
    split at h
    · exact Host.Outcome.next.inj h ▸ hs
    · obtain ⟨u, hu, hk⟩ := andThen_eq_next h
      exact ih (hact s u hs hu) hk

theorem runCtx_keeps {P : State → Prop} {w : Who} (hact : ∀ s t, P s → act w s = .next t → P t) (n : Nat)
    {s t : State} (hs : P s) (h : runCtx w n s = .next t) : P t := runTo_keeps hact n hs h

/-- An action stops only by the `fault` policy on an empty FIFO. -/
theorem act_fault {w : Who} {s : State} {e : Fault} (h : act w s = .fault e) :
    s.cfg.emptyGet = .fault ∧ ∃ f, e = .emptyGet f := by
  have key : ∀ (f : Sel) (k : State → State), actAdvance f k s = .fault e →
      s.cfg.emptyGet = .fault ∧ ∃ f, e = .emptyGet f := by
    intro f k hk
    unfold actAdvance at hk
    cases hr : s.advanceGet f with
    | next u => rw [hr] at hk; cases hk
    | fault e' =>
      rw [hr] at hk
      obtain ⟨-, hp, he⟩ := State.advanceGet_fault hr
      exact ⟨hp, f, (Host.Outcome.fault.inj hk).symm.trans he⟩
    | refused e' => exact absurd hr State.advanceGet_refused
  unfold act at h
  split at h <;> first | cases h | exact key _ _ h

/-- An action refuses nothing. -/
theorem act_refused {w : Who} {s : State} {e : Refusal} : act w s ≠ .refused e := by
  have key : ∀ (f : Sel) (k : State → State), actAdvance f k s ≠ .refused e := by
    intro f k hk
    unfold actAdvance at hk
    cases hr : s.advanceGet f with
    | next u => rw [hr] at hk; cases hk
    | fault e' => rw [hr] at hk; cases hk
    | refused e' => exact State.advanceGet_refused hr
  intro h
  unfold act at h
  split at h <;> first | cases h | exact key _ _ h

/-- A slice refuses nothing. -/
theorem runTo_refused {stop : Phase} {w : Who} {e : Refusal} (n : Nat) :
    ∀ {s : State}, runTo stop w n s ≠ .refused e := by
  induction n with
  | zero => intro s h; cases h
  | succ m ih =>
    intro s h
    rw [runTo_succ] at h
    split at h
    · cases h
    · cases hr : act w s with
      | next u => rw [hr] at h; exact ih h
      | fault e' => rw [hr] at h; cases h
      | refused e' => exact act_refused hr

theorem runCtx_refused {w : Who} {e : Refusal} (n : Nat) {s : State} : runCtx w n s ≠ .refused e := runTo_refused n

/-! ### Issue -/

/-- An issued command answers a next state only in a context at rest, by a slice of its actions. -/
theorem issue_next {i : Instr} {enter : Ctx → Ctx} {s t : State} (h : issue i enter s = .next t) :
    (s.ctx s.issuer).pc = .idle ∧
    runCtx s.issuer s.grant
      ((s.setCtx s.issuer (enter (s.ctx s.issuer))).emit (.issued (s.agentOf s.issuer) i)) = .next t := by
  unfold issue at h
  split at h
  · exact ⟨by assumption, h⟩
  · cases h

/-- RESUME answers a next state only where it can be issued, by a slice of its actions in the running context (R133). -/
theorem startResume_next {s t : State} (h : startResume s = .next t) :
    s.canResume = true ∧
    runTo (s.ctx s.resumer).pc s.resumer s.grant
      ((s.callResume s.resumer (s.ctx s.resumer).pc).emit (.issued (s.agentOf s.resumer) .resume)) = .next t := by
  unfold startResume at h
  split at h
  · exact ⟨by assumption, h⟩
  · cases h

/-- A command of one pure action answers a next state only in a context at rest, and adds two events to the trace. -/
theorem answer_next {i : Instr} {r : Word16} {s t : State} (h : answer i r s = .next t) :
    (s.ctx s.issuer).pc = .idle ∧
    t = (s.emit (.issued (s.agentOf s.issuer) i)).emit (.returned (s.agentOf s.issuer) r) := by
  unfold answer at h
  split at h
  · exact ⟨by assumption, (Host.Outcome.next.inj h).symm⟩
  · cases h

/-- A handler's entry waits while a handler is active, and else runs a slice of the handler. -/
theorem startHandler_next {src : IrqSource} {i : Instr} {s t : State} (h : startHandler src i s = .next t) :
    (s.handlerActive = true ∧ t = s) ∨
    (s.handlerActive = false ∧ runCtx (handlerOf src) s.grant (s.enterHandler src i) = .next t) := by
  unfold startHandler at h
  split at h
  · exact Or.inl ⟨by assumption, (Host.Outcome.next.inj h).symm⟩
  · exact Or.inr ⟨Bool.eq_false_iff.2 (by assumption), h⟩

/-! ### exec -/

/-- How a command's context stands right after issue, by command. -/
def entryOf (i : Instr) (s : State) (c : Ctx) : Ctx :=
  match i with
  | .fclr f => enterClear f s.putFirst c
  | .fput f v => { c with pc := .p1, sel := f, b := v, ret := .idle }
  | .fget f => { c with pc := .g1, sel := f, ret := .idle }
  | .write b => { c with pc := .w1, b := b }
  | .read => { c with pc := .d1 }
  | .resume => c
  | .flen _ => c
  | .fsiz _ => c
  | .txrdy => c
  | .rxrdy => c
  | .avail => c

/-- Everything a meaning can do when it answers a next state: a handler entry that waits; WRITE refused in handler context;
a pure answer; a handler's slice; a RESUME's slice; or a slice of another issued command. -/
theorem exec_next {i : Instr} {s t : State} (h : exec i s = .next t) :
    (s.handlerActive = true ∧ (i = .txrdy ∨ i = .rxrdy) ∧ t = s) ∨
    (∃ b, i = .write b ∧ s.handlerActive = true ∧ t = s.mark (.contextViolation (.write b))) ∨
    (∃ r, (i = .avail ∨ (∃ f, i = .flen f) ∨ ∃ f, i = .fsiz f) ∧ (s.ctx s.issuer).pc = .idle ∧
      t = (s.emit (.issued (s.agentOf s.issuer) i)).emit (.returned (s.agentOf s.issuer) r)) ∨
    (∃ src, i = commandOf src ∧ s.handlerActive = false ∧
      runCtx (handlerOf src) s.grant (s.enterHandler src i) = .next t) ∨
    (i = .resume ∧ s.canResume = true ∧
      runTo (s.ctx s.resumer).pc s.resumer s.grant
        ((s.callResume s.resumer (s.ctx s.resumer).pc).emit (.issued (s.agentOf s.resumer) .resume)) = .next t) ∨
    (∃ u, (u = s ∨ ((∃ f, i = .fclr f) ∧ u = s.popClrOrder)) ∧ i ≠ .resume ∧ i ≠ .txrdy ∧ i ≠ .rxrdy ∧ i ≠ .avail ∧
      (∀ f, i ≠ .flen f ∧ i ≠ .fsiz f) ∧ (∀ b, i = .write b → s.handlerActive = false) ∧
      (s.ctx s.issuer).pc = .idle ∧
      runCtx s.issuer s.grant
        ((u.setCtx s.issuer (entryOf i s (s.ctx s.issuer))).emit (.issued (s.agentOf s.issuer) i)) = .next t) := by
  cases i with
  | fclr f =>
    have h' := issue_next (i := .fclr f) (enter := enterClear f s.putFirst) (s := s.popClrOrder) h
    exact Or.inr (Or.inr (Or.inr (Or.inr (Or.inr ⟨s.popClrOrder, Or.inr ⟨⟨f, rfl⟩, rfl⟩, by simp, by simp, by simp,
      by simp, by simp, by simp, h'.1, h'.2⟩))))
  | fput f v =>
    change execFput f v s = .next t at h
    have h' := issue_next h
    exact Or.inr (Or.inr (Or.inr (Or.inr (Or.inr ⟨s, Or.inl rfl, by simp, by simp, by simp, by simp, by simp, by simp,
      h'.1, h'.2⟩))))
  | fget f =>
    change execFget f s = .next t at h
    have h' := issue_next h
    exact Or.inr (Or.inr (Or.inr (Or.inr (Or.inr ⟨s, Or.inl rfl, by simp, by simp, by simp, by simp, by simp, by simp,
      h'.1, h'.2⟩))))
  | flen f =>
    have h' := answer_next h
    exact Or.inr (Or.inr (Or.inl ⟨_, Or.inr (Or.inl ⟨f, rfl⟩), h'.1, h'.2⟩))
  | fsiz f =>
    have h' := answer_next h
    exact Or.inr (Or.inr (Or.inl ⟨_, Or.inr (Or.inr ⟨f, rfl⟩), h'.1, h'.2⟩))
  | write b =>
    change execWrite b s = .next t at h
    unfold execWrite at h
    split at h
    · exact Or.inr (Or.inl ⟨b, rfl, by assumption, (Host.Outcome.next.inj h).symm⟩)
    · have h' := issue_next h
      exact Or.inr (Or.inr (Or.inr (Or.inr (Or.inr ⟨s, Or.inl rfl, by simp, by simp, by simp, by simp, by simp,
        fun _ _ => Bool.eq_false_iff.2 (by assumption), h'.1, h'.2⟩))))
  | resume =>
    have h' := startResume_next h
    exact Or.inr (Or.inr (Or.inr (Or.inr (Or.inl ⟨rfl, h'.1, h'.2⟩))))
  | txrdy =>
    rcases startHandler_next h with ⟨ha, ht⟩ | ⟨ha, hr⟩
    · exact Or.inl ⟨ha, Or.inl rfl, ht⟩
    · exact Or.inr (Or.inr (Or.inr (Or.inl ⟨.transmit, rfl, ha, hr⟩)))
  | rxrdy =>
    rcases startHandler_next h with ⟨ha, ht⟩ | ⟨ha, hr⟩
    · exact Or.inl ⟨ha, Or.inr rfl, ht⟩
    · exact Or.inr (Or.inr (Or.inr (Or.inl ⟨.receive, rfl, ha, hr⟩)))
  | read =>
    change execRead s = .next t at h
    have h' := issue_next h
    exact Or.inr (Or.inr (Or.inr (Or.inr (Or.inr ⟨s, Or.inl rfl, by simp, by simp, by simp, by simp, by simp, by simp,
      h'.1, h'.2⟩))))
  | avail =>
    have h' := answer_next h
    exact Or.inr (Or.inr (Or.inl ⟨_, Or.inl rfl, h'.1, h'.2⟩))

/-! ### step -/

/-- A command word issued: the instruction it decodes to, or the marker of an illegal word. -/
theorem issueWord_next {w : Word16} {s t : State} (h : issueWord w s = .next t) :
    (∃ i, decode w = .ok i ∧ exec i s = .next t) ∨
    (∃ e, decode w = .error e ∧ t = s.mark (.illegalCommand w)) := by
  unfold issueWord at h
  split at h
  · exact Or.inl ⟨_, by assumption, h⟩
  · exact Or.inr ⟨_, by assumption, (Host.Outcome.next.inj h).symm⟩

/-- Everything a step can do when it answers a next state, by the schedule entry it takes. -/
theorem step_next {s t : State} (h : step s = .next t) :
    s.cfg.wellFormed = true ∧
    ((s.turns = [] ∧ t = s) ∨
     ∃ turn rest, s.turns = turn :: rest ∧
      ((∃ n, t = s.takeTurn rest n) ∨
       (∃ n w cs, turn = .foreground n ∧ s.handlerActive = false ∧ s.boot = .done ∧ s.fg.pc = .idle ∧
          s.cmds = w :: cs ∧ issueWord w ((s.takeTurn rest n).takeCommand cs) = .next t) ∨
       (∃ n, turn = .foreground n ∧ s.handlerActive = false ∧ s.boot = .done ∧ s.fg.pc ≠ .idle ∧
          runCtx .fg n (s.takeTurn rest n) = .next t) ∨
       (∃ n, turn = .handler n ∧ s.handlerActive = true ∧ s.call.pc = .idle ∧
          runCtx s.activeHandler n (s.takeTurn rest n) = .next t) ∨
       (∃ n, turn = .handler n ∧ s.handlerActive = true ∧ s.call.pc ≠ .idle ∧
          runCtx .call n (s.takeTurn rest n) = .next t) ∨
       (∃ src n, turn = .interrupt src n ∧ s.startable src = true ∧
          exec (commandOf src) (s.takeTurn rest n) = .next t) ∨
       (∃ w n, turn = .handlerCommand w n ∧ s.handlerActive = true ∧ s.handlerFree = true ∧
          issueWord w (s.takeTurn rest n) = .next t) ∨
       (∃ p, turn = .peripheral p ∧ t = (s.takeTurn rest 0).perStep p) ∨
       (∃ n, turn = .boot n ∧ s.handlerActive = false ∧ t = runBoot n (s.takeTurn rest n)))) := by
  change stepMachine s = .next t at h
  unfold stepMachine at h
  split at h
  swap
  · cases h
  rename_i hw
  refine ⟨hw, ?_⟩
  split at h
  · rename_i hts
    exact Or.inl ⟨hts, (Host.Outcome.next.inj h).symm⟩
  rename_i turn rest hts
  refine Or.inr ⟨turn, rest, hts, ?_⟩
  cases turn with
  | foreground n =>
    change foregroundTurn n (s.takeTurn rest n) = .next t at h
    unfold foregroundTurn at h
    split at h
    · exact Or.inl ⟨n, (Host.Outcome.next.inj h).symm⟩
    rename_i hg
    have hg' : s.handlerActive = false ∧ s.boot = .done := by
      simp only [Bool.or_eq_true, not_or, bne_iff_ne, ne_eq, not_not, Bool.not_eq_true] at hg
      exact ⟨hg.1, hg.2⟩
    split at h
    · rename_i hi
      split at h
      · exact Or.inl ⟨n, (Host.Outcome.next.inj h).symm⟩
      · rename_i w cs hc
        exact Or.inr (Or.inl ⟨n, w, cs, rfl, hg'.1, hg'.2, hi, hc, h⟩)
    · rename_i hi
      exact Or.inr (Or.inr (Or.inl ⟨n, rfl, hg'.1, hg'.2, hi, h⟩))
  | handler n =>
    change handlerTurn n (s.takeTurn rest n) = .next t at h
    unfold handlerTurn at h
    split at h
    · exact Or.inl ⟨n, (Host.Outcome.next.inj h).symm⟩
    rename_i hg
    have hg' : s.handlerActive = true := by
      simpa using hg
    split at h
    · rename_i hi
      exact Or.inr (Or.inr (Or.inr (Or.inl ⟨n, rfl, hg', hi, h⟩)))
    · rename_i hi
      exact Or.inr (Or.inr (Or.inr (Or.inr (Or.inl ⟨n, rfl, hg', hi, h⟩))))
  | interrupt src n =>
    change interruptTurn src (s.takeTurn rest n) = .next t at h
    unfold interruptTurn at h
    split at h
    · rename_i hi
      exact Or.inr (Or.inr (Or.inr (Or.inr (Or.inr (Or.inl ⟨src, n, rfl, by cases src <;> exact hi, h⟩)))))
    · exact Or.inl ⟨n, (Host.Outcome.next.inj h).symm⟩
  | handlerCommand w n =>
    change handlerCommandTurn w (s.takeTurn rest n) = .next t at h
    unfold handlerCommandTurn at h
    split at h
    · rename_i hi
      simp only [Bool.and_eq_true] at hi
      exact Or.inr (Or.inr (Or.inr (Or.inr (Or.inr (Or.inr (Or.inl ⟨w, n, rfl, hi.1, hi.2, h⟩))))))
    · exact Or.inl ⟨n, (Host.Outcome.next.inj h).symm⟩
  | peripheral p =>
    exact Or.inr (Or.inr (Or.inr (Or.inr (Or.inr (Or.inr (Or.inr (Or.inl
      ⟨p, rfl, (Host.Outcome.next.inj h).symm⟩)))))))
  | boot n =>
    change bootTurn n (s.takeTurn rest n) = .next t at h
    unfold bootTurn at h
    split at h
    · exact Or.inl ⟨n, (Host.Outcome.next.inj h).symm⟩
    · rename_i hg
      exact Or.inr (Or.inr (Or.inr (Or.inr (Or.inr (Or.inr (Or.inr (Or.inr
        ⟨n, rfl, by simpa using hg, (Host.Outcome.next.inj h).symm⟩)))))))

end Sys2Proof.Machine
end

