-- ==== Sys2Proof/Laws/Act.lean ====
section
/-! SUPPORT. One atomic action, inverted: what it does to its own context by phase, that it leaves every other context alone,
and what it can do to the FIFOs, the flag and the rest of the state. -/

namespace Sys2Proof.Machine

/-- G2 touches no context. -/
theorem State.advanceGet_ctx {s t : State} {f : Sel} (e : s.advanceGet f = .next t) (u : Who) : t.ctx u = s.ctx u := by
  rcases State.advanceGet_next e with ⟨-, rfl⟩ | ⟨-, -, rfl⟩ <;> simp

theorem State.goto_other {s : State} {w u : Who} (h : u ≠ w) (p : Phase) : (s.goto w p).ctx u = s.ctx u :=
  State.ctx_setCtx_other s _ h

theorem State.ret_other {s : State} {w u : Who} (h : u ≠ w) : (s.ret w).ctx u = s.ctx u :=
  State.ctx_setCtx_other s _ h

theorem State.readSlot_other {s : State} {w u : Who} (h : u ≠ w) (f : Sel) : (s.readSlot w f).ctx u = s.ctx u := by
  unfold State.readSlot
  split <;> simp [State.ctx_setCtx_other _ _ h]

/-- An action of context `w` leaves every other context as it was (R210). -/
theorem act_other {w u : Who} {s t : State} (h : u ≠ w) (e : act w s = .next t) : t.ctx u = s.ctx u := by
  unfold act at e
  split at e
  all_goals first
    | (obtain ⟨r, hu, rfl⟩ := actAdvance_next e
       have := State.advanceGet_ctx hu u
       first
       | (simp [State.goto_other h, this]; done)
       | (unfold finishGet; split <;> simp [State.ret_other h, this])
       | simp [finishRead, State.goto_other h, this])
    | (cases e
       first
       | rfl
       | (simp only [actW1, actW3, actS1, actS2, actS3, actT1, actX1, actX2]
          split <;> simp [State.goto_other h, State.ret_other h])
       | simp [State.callResume, State.callPut, State.callGet, State.ctx_setCtx_other _ _ h, State.goto_other h,
          State.ret_other h, State.readSlot_other h, finishClear, State.leaveHandler, actX2])

/-- What an action does to its own context, by the phase it stands in (R27, R28, R142). -/
theorem act_ctx {w : Who} {s t : State} (e : act w s = .next t) :
    match (s.ctx w).pc with
    | .idle => t = s
    | .w1 => t.ctx w = { s.ctx w with pc := .w2 } ∨ t.ctx w = { s.ctx w with pc := .w4 }
    | .w2 => t.ctx w = { s.ctx w with pc := .s1, ret := .w3 }
    | .w3 => t.ctx w = { s.ctx w with pc := .w4 } ∨ t.ctx w = { s.ctx w with pc := .w3 }
    | .w4 => t.ctx w = { s.ctx w with pc := .p1, sel := .tx, ret := .w5 }
    | .w5 => t.ctx w = { s.ctx w with pc := .s1, ret := .idle }
    | .s1 => t.ctx w = { s.ctx w with pc := .s2 } ∨ t.ctx w = { s.ctx w with pc := (s.ctx w).ret }
    | .s2 => t.ctx w = { s.ctx w with pc := .s3 } ∨ t.ctx w = { s.ctx w with pc := (s.ctx w).ret }
    | .s3 => t.ctx w = { s.ctx w with pc := .s4 } ∨ t.ctx w = { s.ctx w with pc := .s3 }
    | .s4 => t.ctx w = { s.ctx w with pc := .s5, v := s.slotValue .tx }
    | .s5 => t.ctx w = { s.ctx w with pc := .s6 }
    | .s6 => t.ctx w = { s.ctx w with pc := .s7 }
    | .s7 => t.ctx w = { s.ctx w with pc := (s.ctx w).ret }
    | .d1 => t.ctx w = { s.ctx w with pc := .d2, v := s.slotValue .rx }
    | .d2 => t.ctx w = { s.ctx w with pc := .idle }
    | .p1 => t.ctx w = { s.ctx w with pc := .p2 }
    | .p2 => t.ctx w = { s.ctx w with pc := (s.ctx w).ret }
    | .g1 => t.ctx w = { s.ctx w with pc := .g2, v := s.slotValue (s.ctx w).sel }
    | .g2 => t.ctx w = { s.ctx w with pc := (s.ctx w).ret }
    | .c1 => t.ctx w = { s.ctx w with pc := (s.ctx w).ret, ret := .idle }
    | .c2 => t.ctx w = { s.ctx w with pc := (s.ctx w).ret, ret := .idle }
    | .t1 => t.ctx w = { s.ctx w with pc := .t2 } ∨ t.ctx w = { s.ctx w with pc := .t4 }
    | .t2 => t.ctx w = { s.ctx w with pc := .g1, sel := .tx, ret := .t3 }
    | .t3 => t.ctx w = { s.ctx w with pc := .t5 }
    | .t4 => t.ctx w = { s.ctx w with pc := .t5 }
    | .t5 => t.ctx w = { s.ctx w with pc := .idle }
    | .x1 => t.ctx w = { s.ctx w with pc := .x2 } ∨ t.ctx w = { s.ctx w with pc := .x3 }
    | .x2 => t.ctx w = { s.ctx w with pc := .x4 }
    | .x3 => t.ctx w = { s.ctx w with pc := .p1, sel := .rx, b := s.rxiSw.data, ret := .x4 }
    | .x4 => t.ctx w = { s.ctx w with pc := .idle } := by
  unfold act at e
  split at e <;> rename_i hpc <;> (try rw [hpc])
  all_goals first
    | (obtain ⟨r, hu, rfl⟩ := actAdvance_next e
       have hr := State.advanceGet_ctx hu w
       first
       | (simp [hr]; done)
       | (simp only [finishGet]; split <;> simp [hr]; done)
       | (simp [finishRead, hr]; done))
    | (cases e
       first
       | rfl
       | (simp only [actW1, actW3, actS1, actS2, actS3, actT1, actX1]
          split <;> simp
          done)
       | (simp [finishClear, actX2]; done))

/-! ### The rest of the state -/

/-- G2 leaves everything but its FIFO and the markers. -/
theorem State.advanceGet_frame {s t : State} {f : Sel} (e : s.advanceGet f = .next t) :
    t.cfg = s.cfg ∧ t.stalled = s.stalled ∧ t.rxiSw = s.rxiSw ∧ t.boot = s.boot ∧ t.per = s.per ∧
    t.oracle = s.oracle ∧ t.draws = s.draws ∧ t.clrOrder = s.clrOrder ∧ t.trace = s.trace ∧ t.cmds = s.cmds ∧
    t.turns = s.turns ∧ t.grant = s.grant ∧ ∀ m ∈ s.markers, m ∈ t.markers := by
  rcases State.advanceGet_next e with ⟨-, rfl⟩ | ⟨-, -, rfl⟩
  · simp
  · simp only [State.mem_markers_mark]
    simp
    exact fun m hm => Or.inl hm

/-- No action changes the configuration, construction, the inputs or the grant. -/
theorem act_fixed {w : Who} {s t : State} (e : act w s = .next t) :
    t.cfg = s.cfg ∧ t.boot = s.boot ∧ t.clrOrder = s.clrOrder ∧ t.cmds = s.cmds ∧ t.turns = s.turns ∧
    t.grant = s.grant := by
  unfold act at e
  split at e
  all_goals first
    | (obtain ⟨r, hu, rfl⟩ := actAdvance_next e
       obtain ⟨h1, -, -, h2, -, -, -, h3, -, h4, h5, h6, -⟩ := State.advanceGet_frame hu
       first
       | (simp [h1, h2, h3, h4, h5, h6]; done)
       | (simp only [finishGet]; split <;> simp [h1, h2, h3, h4, h5, h6]; done)
       | (simp [finishRead, h1, h2, h3, h4, h5, h6]; done))
    | (cases e
       first
       | (simp; done)
       | (simp only [actW1, actW3, actS1, actS2, actS3, actT1, actX1]
          split <;> simp
          done)
       | (simp [actX2]; done))

/-- What the dequeue's second action leaves: get advanced, one element taken from the count, EMPTY_GET recorded when there
was none, the other FIFO alone (R106, R111). -/
def Dequeued (f : Sel) (s t : State) : Prop :=
  t.fifo f = { s.fifo f with get := inc (s.mode f) (s.cap f) (s.fifo f).get, cnt := (s.fifo f).cnt - 1 } ∧
  ((s.fifo f).cnt = 0 → Marker.emptyGet f ∈ t.markers) ∧ ∀ g, g ≠ f → t.fifo g = s.fifo g

theorem State.advanceGet_dequeued {s t : State} {f : Sel} (e : s.advanceGet f = .next t) : Dequeued f s t := by
  rcases State.advanceGet_next e with ⟨h0, rfl⟩ | ⟨h0, -, rfl⟩
  · exact ⟨by simp, fun h => absurd h h0, fun g hg => State.fifo_setFifo_other s _ hg⟩
  · refine ⟨by simp [h0], fun _ => (State.mem_markers_mark _ _ _).2 (Or.inr rfl), fun g hg => ?_⟩
    rw [State.fifo_mark]
    exact State.fifo_setFifo_other s _ hg

/-- What P2 leaves: put advanced, the count grown or FIFO_OVERFLOW recorded, the other FIFO alone (R105, R109). -/
theorem State.advancePut_fifo (s : State) (f : Sel) :
    (s.advancePut f).fifo f = { s.fifo f with
      put := inc (s.mode f) (s.cap f) (s.fifo f).put
      cnt := if (s.fifo f).cnt = s.cap f then (s.fifo f).cnt else (s.fifo f).cnt + 1 } ∧
    ((s.fifo f).cnt = s.cap f → Marker.fifoOverflow f ∈ (s.advancePut f).markers) ∧
    ∀ g, g ≠ f → (s.advancePut f).fifo g = s.fifo g := by
  unfold State.advancePut
  split
  · rename_i hc
    refine ⟨by simp [hc], fun _ => (State.mem_markers_mark _ _ _).2 (Or.inr rfl), fun g hg => ?_⟩
    rw [State.fifo_mark]
    exact State.fifo_setFifo_other s _ hg
  · rename_i hc
    exact ⟨by simp [hc], fun h => absurd h hc, fun g hg => State.fifo_setFifo_other s _ hg⟩

/-- What an action does to the FIFOs, by its phase (R62, R104 to R106): only the dequeues' second actions, FPUT's two
and FCLR's two touch one. -/
theorem act_fifo {w : Who} {s t : State} (e : act w s = .next t) :
    match (s.ctx w).pc with
    | .s5 => Dequeued .tx s t
    | .d2 => Dequeued .rx s t
    | .g2 => Dequeued (s.ctx w).sel s t
    | .p1 =>
      t.fifo (s.ctx w).sel = { s.fifo (s.ctx w).sel with
        store := memWrite (s.fifo (s.ctx w).sel).store (s.fifo (s.ctx w).sel).put.toNat (s.ctx w).b } ∧
      ∀ g, g ≠ (s.ctx w).sel → t.fifo g = s.fifo g
    | .p2 =>
      t.fifo (s.ctx w).sel = { s.fifo (s.ctx w).sel with
        put := inc (s.mode (s.ctx w).sel) (s.cap (s.ctx w).sel) (s.fifo (s.ctx w).sel).put
        cnt := if (s.fifo (s.ctx w).sel).cnt = s.cap (s.ctx w).sel then (s.fifo (s.ctx w).sel).cnt
          else (s.fifo (s.ctx w).sel).cnt + 1 } ∧
      ((s.fifo (s.ctx w).sel).cnt = s.cap (s.ctx w).sel → Marker.fifoOverflow (s.ctx w).sel ∈ t.markers) ∧
      ∀ g, g ≠ (s.ctx w).sel → t.fifo g = s.fifo g
    | .c1 =>
      t.fifo (s.ctx w).sel = { s.fifo (s.ctx w).sel with get := 0 } ∧
      ∀ g, g ≠ (s.ctx w).sel → t.fifo g = s.fifo g
    | .c2 =>
      t.fifo (s.ctx w).sel = { s.fifo (s.ctx w).sel with put := 0, cnt := 0 } ∧
      ∀ g, g ≠ (s.ctx w).sel → t.fifo g = s.fifo g
    | _ => ∀ g, t.fifo g = s.fifo g := by
  have lift : ∀ {f : Sel} {r u : State}, s.advanceGet f = .next r → (∀ g, u.fifo g = r.fifo g) →
      (∀ m ∈ r.markers, m ∈ u.markers) → Dequeued f s u := by
    intro f r u hr hf hm
    obtain ⟨h1, h2, h3⟩ := State.advanceGet_dequeued hr
    exact ⟨(hf f).trans h1, fun h => hm _ (h2 h), fun g hg => (hf g).trans (h3 g hg)⟩
  have put : ∀ (u : State) (f : Sel), ((u.advancePut f).ret w).fifo f = { u.fifo f with
        put := inc (u.mode f) (u.cap f) (u.fifo f).put
        cnt := if (u.fifo f).cnt = u.cap f then (u.fifo f).cnt else (u.fifo f).cnt + 1 } ∧
      ((u.fifo f).cnt = u.cap f → Marker.fifoOverflow f ∈ ((u.advancePut f).ret w).markers) ∧
      ∀ g, g ≠ f → ((u.advancePut f).ret w).fifo g = u.fifo g := by
    intro u f
    obtain ⟨h1, h2, h3⟩ := State.advancePut_fifo u f
    exact ⟨by simp [h1], by simpa using h2, fun g hg => by simpa using h3 g hg⟩
  unfold act at e
  split at e <;> rename_i hpc <;> (try rw [hpc])
  all_goals first
    | (obtain ⟨r, hu, rfl⟩ := actAdvance_next e
       first
       | (exact lift hu (by intro g; simp; done) (by simp))
       | (refine lift hu ?_ ?_ <;> simp only [finishGet] <;> split <;> simp; done)
       | (refine lift hu ?_ ?_ <;> simp [finishRead]; done))
    | (cases e
       first
       | (intro g; rfl)
       | (intro g; simp; done)
       | (intro g
          simp only [actW1, actW3, actS1, actS2, actS3, actT1, actX1]
          split <;> simp
          done)
       | (intro g; simp [actX2]; done)
       | (refine ⟨?_, fun g hg => ?_⟩
          · simp [State.writeSlot, Fifo.putSlot]
            done
          · simpa [State.writeSlot] using State.fifo_setFifo_other s _ hg)
       | (refine ⟨?_, fun g hg => ?_⟩
          · simp [finishClear, State.clearGet]
            done
          · simpa [finishClear, State.clearGet] using State.fifo_setFifo_other s _ hg)
       | (refine ⟨?_, fun g hg => ?_⟩
          · simp [finishClear, State.clearPut]
            done
          · simpa [finishClear, State.clearPut] using State.fifo_setFifo_other s _ hg)
       | exact put s _)

end Sys2Proof.Machine
end

