-- ==== Sys2Proof/Laws/Hold.lean ====
section
/-! SUPPORT. The transmit-empty wait (R138): what one poll of the register does and leaves, and that a context at RESUME's S3
holds there for as long as the polls answer false. -/

namespace Sys2Proof.Machine

/-- Nothing polled: the next answer is the one the surface call gives now. -/
@[simp] theorem State.pollAnswer_zero (s : State) : s.pollAnswer 0 = s.txEmptyAnswer := by
  unfold State.pollAnswer State.txEmptyAnswer
  cases s.cfg.env with
  | reference => rfl
  | oracle => cases s.oracle.txEmpty <;> simp

@[simp] theorem State.polled_zero (s : State) : s.polled 0 = s := by
  unfold State.polled
  cases s.cfg.env <;> simp

/-- One poll is one answer used up and the call recorded. -/
theorem State.pollTxEmpty_eq (s : State) (a : Agent) :
    s.pollTxEmpty a = (s.polled 1).logCall a (.isTransmitRegisterEmpty s.txEmptyAnswer) := by
  unfold State.pollTxEmpty State.polled
  cases s.cfg.env with
  | reference => rfl
  | oracle =>
    cases ho : s.oracle.txEmpty with
    | nil =>
      have hs : { s.oracle with txEmpty := ([] : List Bool) } = s.oracle := by rw [← ho]
      simp [State.bumpDraws, hs]
    | cons b bs => simp

/-- After one poll the answers still to come are the same, one place earlier. -/
@[simp] theorem State.pollAnswer_pollTxEmpty (s : State) (a : Agent) (i : Nat) :
    (s.pollTxEmpty a).pollAnswer i = s.pollAnswer (i + 1) := by
  rw [State.pollTxEmpty_eq]
  unfold State.pollAnswer State.polled
  cases h : s.cfg.env with
  | reference => simp [h]
  | oracle => cases s.oracle.txEmpty <;> simp [h, Nat.add_comm, Nat.add_left_comm]

/-- `n + 1` polls' answers used up are one poll's and then `n`, the record aside. -/
theorem State.polled_pollTxEmpty (s : State) (a : Agent) (n : Nat) :
    (s.pollTxEmpty a).polled n =
      (s.polled (n + 1)).logCall a (.isTransmitRegisterEmpty s.txEmptyAnswer) := by
  rw [State.pollTxEmpty_eq]
  unfold State.polled
  cases h : s.cfg.env with
  | reference => simp [h]
  | oracle => cases s.oracle.txEmpty <;> simp [h, State.logCall, State.emit, Nat.add_comm, Nat.add_left_comm]

@[simp] theorem State.polled_trace (s : State) (n : Nat) : (s.polled n).trace = s.trace := by
  unfold State.polled
  cases s.cfg.env <;> rfl

@[simp] theorem State.pollTxEmpty_trace (s : State) (a : Agent) :
    (s.pollTxEmpty a).trace = s.trace ++ [.called a (.isTransmitRegisterEmpty s.txEmptyAnswer)] := by
  simp [State.pollTxEmpty_eq, State.logCall]

/-- At S3 a poll that answers false is the whole action: the context holds (R133, R138). -/
theorem act_hold {w : Who} {s : State} (h : (s.ctx w).pc = .s3) (hp : s.txEmptyAnswer = false) :
    act w s = .next (s.pollTxEmpty (s.agentOf w)) := by
  have hg : ∀ u : State, (u.ctx w).pc = .s3 → u.goto w .s3 = u := by
    intro u hu
    cases w <;> simp only [State.goto, State.setCtx, State.ctx] at hu ⊢ <;> rw [← hu]
  simp only [act, h, actS3, hp]
  rw [hg _ (by simpa using h)]
  rfl

/-- The hold: with false answers only, a slice of `n` actions from S3 is `n` polls and nothing else (R138, R190 a, R241). -/
theorem runTo_hold {stop : Phase} {w : Who} (hstop : stop ≠ .s3) (n : Nat) :
    ∀ {s : State}, (s.ctx w).pc = .s3 → s.pollsFalse n →
      runTo stop w n s = .next { s.polled n with
        trace := s.trace ++ List.replicate n (.called (s.agentOf w) (.isTransmitRegisterEmpty false)) } := by
  induction n with
  | zero => intro s _ _; simp
  | succ m ih =>
    intro s h hf
    have h0 : s.txEmptyAnswer = false := by simpa using hf 0 (Nat.succ_pos m)
    rw [runTo_succ, if_neg (by rw [h]; exact hstop.symm), act_hold h h0, andThen_next,
      ih (by simpa using h) (fun i hi => by simpa using hf (i + 1) (Nat.succ_lt_succ hi)), State.polled_pollTxEmpty]
    simp [State.logCall, State.emit, h0, List.replicate_succ]

end Sys2Proof.Machine
end

