-- ==== Sys2Proof/Laws/PerInstr.lean ====
section
/-! SUPPORT. The statements made per instruction: `LegalWord`, every instruction with every operand encodes to a legal
command word, one that none of R85's grounds for an illegal word holds of (R81, R85, R90). -/

namespace Sys2Proof.Laws.LegalWord

/-- The instruction's command word is legal (R85). -/
def Statement (i : Instr) : Prop := wordWellFormed (encode i) = true

theorem fclr (f : Sel) : Statement (.fclr f) := by cases f <;> rfl

theorem fput (f : Sel) (v : Byte) : Statement (.fput f v) := by
  unfold Statement
  cases f <;> revert v <;> decide

theorem fget (f : Sel) : Statement (.fget f) := by cases f <;> rfl

theorem flen (f : Sel) : Statement (.flen f) := by cases f <;> rfl

theorem fsiz (f : Sel) : Statement (.fsiz f) := by cases f <;> rfl

theorem write (b : Byte) : Statement (.write b) := by
  unfold Statement
  revert b
  decide

theorem resume : Statement .resume := rfl

theorem txrdy : Statement .txrdy := rfl

theorem rxrdy : Statement .rxrdy := rfl

theorem read : Statement .read := rfl

theorem avail : Statement .avail := rfl

end Sys2Proof.Laws.LegalWord
end

