-- ==== Sys2Proof/Tests/Slice0.lean ====
section
/-! SUPPORT. The model's own tests: the well-formedness checks, decoding of words written out from the spec's encoding, one
step of each command with the outcome spec/95 derives by hand, and for each statement with hypotheses a state that meets
them. -/

namespace Sys2Proof.Tests

open Sys2Proof.Machine

/-! ### Well-formedness: a term each check refuses (R85, R101, R244, R89) -/

theorem test_wellFormed_accepts : wordWellFormed 0x187A#16 = true := by decide

/-- 0xE000: reserved `op` (spec/95 section 2.6). -/
theorem test_wellFormed_refuses_reserved_op : opAssigned 0xE000#16 = false ∧ wordWellFormed 0xE000#16 = false := by
  decide

/-- 0x1100: `CW[10:8]` not zero (spec/95 section 2.6). -/
theorem test_wellFormed_refuses_zero_field : zeroFieldClear 0x1100#16 = false ∧ wordWellFormed 0x1100#16 = false := by
  decide

/-- 0xC800: port-class word with `sel` = 1 (spec/95 section 2.6). -/
theorem test_wellFormed_refuses_sel_on_port : selClearOnPort 0xC800#16 = false ∧ wordWellFormed 0xC800#16 = false := by
  decide

/-- 0x38FF: `data` not zero on an operation without a data operand (spec/95 section 2.6). -/
theorem test_wellFormed_refuses_data :
    dataClearWhenUnused 0x38FF#16 = false ∧ wordWellFormed 0x38FF#16 = false := by decide

/-- A configuration: capacities 0 and 257 and the mask form on 10 are refused, 256 and the mask form on 16 are not (R101,
R244). -/
theorem test_wellFormed_configuration :
    ({ Config.standard with capTx := 0 } : Cfg).wellFormed = false ∧
    ({ Config.standard with capRx := 257 } : Cfg).wellFormed = false ∧
    ({ Config.standard with capRx := 10, modeRx := .mask } : Cfg).wellFormed = false ∧
    ({ Config.standard with capTx := 256, modeTx := .mask, modeRx := .mask } : Cfg).wellFormed = true := by decide

/-- WRITE is for the foreground, RESUME for either context, an entry point for its handler (R89). -/
theorem test_issueAllowed :
    issueAllowed .txHandler (.write 0x00#8) = false ∧ issueAllowed .rxHandler .resume = true ∧
    issueAllowed .foreground .txrdy = false := by decide

/-! ### Decoding: words written out bit by bit, op, sel, 000, data (R81, R83; spec/95 section 2.6) -/

theorem test_decode_fclr : decode 0b0000_1_000_00000000#16 = .ok (.fclr .rx) := by decide
theorem test_decode_fput : decode 0b0001_1_000_01111010#16 = .ok (.fput .rx 0x7A#8) := by decide
theorem test_decode_fget : decode 0b0010_0_000_00000000#16 = .ok (.fget .tx) := by decide
theorem test_decode_flen : decode 0b0011_1_000_00000000#16 = .ok (.flen .rx) := by decide
theorem test_decode_fsiz : decode 0b0100_0_000_00000000#16 = .ok (.fsiz .tx) := by decide
theorem test_decode_write : decode 0b1000_0_000_01000001#16 = .ok (.write 0x41#8) := by decide
theorem test_decode_resume : decode 0b1001_0_000_00000000#16 = .ok .resume := by decide
theorem test_decode_txrdy : decode 0b1010_0_000_00000000#16 = .ok .txrdy := by decide
theorem test_decode_rxrdy : decode 0b1011_0_000_00000000#16 = .ok .rxrdy := by decide
theorem test_decode_read : decode 0b1100_0_000_00000000#16 = .ok .read := by decide
theorem test_decode_avail : decode 0b1101_0_000_00000000#16 = .ok .avail := by decide

/-- Illegal words by name (spec/95 section 2.6). -/
theorem test_decode_illegal :
    decode 0xFFFF#16 = .error .reservedOp ∧ decode 0x8241#16 = .error .zeroField ∧
    decode 0x9800#16 = .error .selOnPort ∧ decode 0xD07A#16 = .error .dataNotZero := by decide

/-- The table's numbering: bit 0 is the word's least significant bit (R52, R81). -/
theorem test_decodeTableWord :
    decodeTableWord 16 0x1041 = some (.fput .tx 0x41#8) ∧ decodeTableWord 16 0x5000 = none := by decide

/-- R88's example words: `0x9055` is data 0x55 with overrun and sum. -/
theorem test_status_word :
    StatusWord.unpack 0x9055#16 = { data := 0x55, oe := true, fe := false, pe := false, sum := true } ∧
    ({ data := 0xFF, oe := true, fe := true, pe := true, sum := true } : StatusWord).pack = 0xF0FF#16 := by decide

/-! ### Small states -/

/-- The next state of an outcome, if there is one. -/
def after (r : Result) : Option State :=
  match r with
  | .next t => some t
  | .fault _ => none
  | .refused _ => none

/-- Reset with both capacities `c` and a turn of 32 actions running. -/
def fresh (c : Nat) : State :=
  { State.resetWith { Config.standard with capTx := c, capRx := c } with grant := 32 }

/-- A FIFO with the given indices, written slots and true count. -/
def fifoAt (g p : Nat) (st : Memory) (n : Nat) : Fifo :=
  { get := BitVec.ofNat 8 g, put := BitVec.ofNat 8 p, store := st, cnt := n }

/-- A full FIFO of four (spec/95 V-OVF after four puts: a, b, c, d). -/
def fullFour : Fifo := fifoAt 0 0 [(0, 0xA0), (1, 0xB1), (2, 0xC2), (3, 0xD3)] 4

/-- One queued byte 0x41 in slot 0. -/
def oneQueued : Fifo := fifoAt 0 1 [(0, 0x41)] 1

/-- A status record without error flags. -/
def good (v : Byte) : StatusWord := { data := v, oe := false, fe := false, pe := false, sum := false }

/-- The peripheral with a received frame pending (after RX_ARRIVE). -/
def received (w : StatusWord) : Per := { Per.reset with rxWord := w, rxIrq := true, errLatch := rxError w }

/-- The peripheral with its transmit register full. -/
def sending : Per := { Per.reset with txEmpty := false, txLog := [0x41] }

/-- The state inside a handler: TXI stands at T5. -/
def inHandler : State := { fresh 16 with txi := { Ctx.reset with pc := .t5 } }

/-! ### One step of each command (spec/95) -/

/-- V-CLR1: get 5, put 9: both indices 0, storage unchanged. -/
theorem test_fclr_moves_both_indices :
    (after (exec (.fclr .tx) { fresh 16 with tx := fifoAt 5 9 [(5, 0x11)] 4 })).map (fun t => t.tx) =
      some (fifoAt 0 0 [(5, 0x11)] 0) := by decide

/-- SC7 c: FCLR RX leaves TX alone, with the put written first. -/
theorem test_fclr_put_first :
    (after (exec (.fclr .rx) { fresh 16 with rx := fifoAt 7 7 [] 16, tx := oneQueued, clrOrder := [true] })).map
      (fun t => (t.rx, t.tx)) = some (fifoAt 0 0 [] 0, oneQueued) := by decide

/-- V-PUT1: put at 15 wraps to 0, get untouched. -/
theorem test_fput_wraps :
    (after (exec (.fput .tx 0xAB#8) { fresh 16 with tx := fifoAt 3 15 [] 12 })).map
      (fun t => (t.tx, t.occ .tx)) = some (fifoAt 3 0 [(15, 0xAB)] 13, 13) := by decide

/-- V-OVF, fifth put: slot 0 overwritten, put 1, count still 4, FIFO_OVERFLOW(TX). -/
theorem test_fput_overflows :
    (after (exec (.fput .tx 0xE4#8) { fresh 4 with tx := fullFour })).map (fun t => (t.tx, t.markers)) =
      some (fifoAt 0 1 [(0, 0xE4), (1, 0xB1), (2, 0xC2), (3, 0xD3)] 4, [.fifoOverflow .tx]) := by decide

/-- V-GET1: get at 15 wraps to 0 and the response is 0x00AB. -/
theorem test_fget_wraps :
    (after (exec (.fget .tx) { fresh 16 with tx := fifoAt 15 2 [(15, 0xAB)] 3 })).map
      (fun t => (t.tx, responses t.trace)) = some (fifoAt 0 2 [(15, 0xAB)] 2, [0x00AB#16]) := by decide

/-- V-GET2: from reset get becomes 1, occupancy 15, both markers; the response is a free value. -/
theorem test_fget_empty_unwritten :
    (after (exec (.fget .tx) (fresh 16))).map (fun t => (t.tx, t.occ .tx, t.markers)) =
      some (fifoAt 1 0 [] 0, 15, [.unwrittenSlot .tx 0, .emptyGet .tx]) := by decide

/-- V-LEN1: get 14, put 3 in sixteen slots: 5. -/
theorem test_flen_wrapped :
    (after (exec (.flen .tx) { fresh 16 with tx := fifoAt 14 3 [] 5 })).map (fun t => responses t.trace) =
      some [0x0005#16] := by decide

/-- SC1 step 17: sixteen unread elements read as length 0. -/
theorem test_flen_full :
    (after (exec (.flen .tx) { fresh 16 with tx := fifoAt 0 0 [] 16 })).map (fun t => responses t.trace) =
      some [0x0000#16] := by decide

/-- V-SIZ1: ten slots. -/
theorem test_fsiz_ten : (after (exec (.fsiz .rx) (fresh 10))).map (fun t => responses t.trace) = some [0x000A#16] := by
  decide

/-- SC8: 256 slots answer 0x0100. -/
theorem test_fsiz_largest :
    (after (exec (.fsiz .tx) (fresh 256))).map (fun t => responses t.trace) = some [0x0100#16] := by decide

/-- SC2: the first WRITE kicks the transmitter. -/
theorem test_write_kicks :
    (after (exec (.write 0x41#8) (fresh 16))).map (fun t => (t.tx, t.stalled, t.per.txLog, t.per.txEmpty, t.markers)) =
      some (fifoAt 1 1 [(0, 0x41)] 0, false, [0x41], false, []) := by decide

/-- P4 step 9 (V-WR5): at occupancy 7 of 8 WRITE throttles and holds at W3. -/
theorem test_write_throttles :
    (after (exec (.write 0x09#8) { fresh 8 with tx := fifoAt 1 0 [] 7, stalled := false })).map
      (fun t => (t.fg.pc, t.tx, t.markers, transmitted t.trace)) =
      some (.w3, fifoAt 1 0 [] 7, [.txThrottle], []) := by decide

/-- SC6 b: STALLED with an empty queue: not even the register is polled. -/
theorem test_resume_empty :
    (after (exec .resume { fresh 16 with tx := fifoAt 2 2 [] 0 })).map (fun t => (t.tx, t.stalled, t.trace)) =
      some (fifoAt 2 2 [] 0, true, [.issued .fg .resume]) := by decide

/-- SC6 c: one queued byte, STALLED, register empty: the kick. -/
theorem test_resume_kicks :
    (after (exec .resume { fresh 16 with tx := oneQueued })).map (fun t => (t.tx, t.stalled, t.per.txLog)) =
      some (fifoAt 1 1 [(0, 0x41)] 0, false, [0x41]) := by decide

/-- V-TX1: one byte sent from slot 1, the flag left false, the acknowledge last. -/
theorem test_txrdy_sends :
    (after (exec .txrdy
      { fresh 16 with tx := fifoAt 1 3 [(1, 0x42), (2, 0x43)] 2, stalled := false })).map
        (fun t => (t.tx.get, t.stalled, t.trace)) =
      some (2, false, [.issued .txi .txrdy, .called .txi (.writeDataRegister 0x42),
        .called .txi .acknowledgeTransmitInterrupt]) := by decide

/-- SC3: nothing queued: STALLED, no data write, the condition cleared. -/
theorem test_txrdy_stalls :
    (after (exec .txrdy { fresh 16 with
      tx := fifoAt 1 1 [(0, 0x41)] 0, stalled := false, per := { Per.reset with txIrq := true } })).map
        (fun t => (t.stalled, t.per.txIrq, transmitted t.trace)) = some (true, false, []) := by decide

/-- SC5 step 1: a good byte 0x7A is queued. -/
theorem test_rxrdy_enqueues :
    (after (exec .rxrdy { fresh 16 with per := received (good 0x7A) })).map (fun t => (t.rx, t.per.rxIrq)) =
      some (fifoAt 0 1 [(0, 0x7A)] 1, false) := by decide

/-- SC4: an overrun: nothing queued, the latch cleared once, the marker. -/
theorem test_rxrdy_overrun :
    (after (exec .rxrdy { fresh 16 with per := received { good 0x55 with oe := true } })).map
        (fun t => (t.rx, t.per.errLatch, t.markers, t.trace.count (.called .rxi .clearReceiveErrorLatch))) =
      some (Fifo.reset, false, [.rxLineError { good 0x55 with oe := true }], 1) := by decide

/-- V-RD1: the response is 0x007A and get becomes 1. -/
theorem test_read_returns :
    (after (exec .read { fresh 16 with rx := fifoAt 0 1 [(0, 0x7A)] 1 })).map
      (fun t => (t.rx.get, responses t.trace)) = some (1, [0x007A#16]) := by decide

/-- V-RD2: READ from reset: get 1, occupancy 15, both markers. -/
theorem test_read_empty :
    (after (exec .read (fresh 16))).map (fun t => (t.rx.get, t.occ .rx, t.markers)) =
      some (1, 15, [.unwrittenSlot .rx 0, .emptyGet .rx]) := by decide

/-- V-AV1: get 14, put 3: 5. -/
theorem test_avail_wrapped :
    (after (exec .avail { fresh 16 with rx := fifoAt 14 3 [] 5 })).map (fun t => responses t.trace) =
      some [0x0005#16] := by decide

/-- V-AV2: two of two bytes held, 0 reported. -/
theorem test_avail_full_looks_empty :
    (after (exec .avail { fresh 2 with rx := fifoAt 0 0 [(0, 0x11), (1, 0x22)] 2 })).map (fun t => responses t.trace) =
      some [0x0000#16] := by decide

/-! ### The step -/

/-- The very next step from reset runs the placed word: WRITE 0x41 as in SC2. -/
theorem test_step_runs_the_placed_word :
    (after (step (State.reset.withFetchWord 16 0x8041))).map (fun t => (t.per.txLog, t.stalled, t.cmds, t.turns)) =
      some ([0x41], false, [], []) := by decide

/-- V-WR6: WRITE in handler context is refused. -/
theorem test_write_in_handler_context :
    (after (exec (.write 0x00#8) inHandler)).map (fun t => (t.tx, t.fg, t.markers)) =
      some (Fifo.reset, Ctx.reset, [.contextViolation (.write 0x00#8)]) := by decide

/-- R133: RESUME by TXI's code between G2 and T3, on TXI's own phase register and temporaries: it comes back to T3 with the
byte it sent in `v`, and the foreground is untouched. -/
theorem test_resume_in_handler_context :
    (after (step { fresh 16 with
      tx := oneQueued, txi := { Ctx.reset with pc := .t3, v := 0x99 }, turns := [.handlerCommand 0x9000#16 32] })).map
        (fun t => (t.txi.pc, t.txi.v, t.fg, t.call, t.per.txLog)) =
      some (.t3, 0x41, Ctx.reset, Ctx.reset, [0x41]) := by decide

/-- P4, last step before 10: TX_DONE raises transmit-ready (R191). -/
theorem test_tx_done :
    (after (step { fresh 16 with per := sending, turns := [.peripheral .txDone] })).map
      (fun t => (t.per.txEmpty, t.per.txIrq)) = some (true, true) := by decide

/-- P3 step 3: RX_ARRIVE takes the frame and sets the error latch. -/
theorem test_rx_arrive :
    (after (step { fresh 16 with
      per := { Per.reset with rxFeed := [{ good 0x55 with oe := true }] }, turns := [.peripheral .rxArrive] })).map
        (fun t => (t.per.rxWord.data, t.per.rxIrq, t.per.errLatch, t.per.rxFeed)) =
      some (0x55, true, true, []) := by decide

/-! ### Witnesses: for each statement with hypotheses, a state and operands that meet all of them -/

theorem witness_DecodeAfterEncodeIsIdentity : (Instr.fput .rx 0xFF#8).wellFormed = true := by decide

theorem witness_EncodeAfterDecodeIsIdentity : decode 0x80FF#16 = .ok (.write 0xFF#8) := by decide

theorem witness_DecodableWordsAreTheLegalOnes :
    (decode 0xD000#16 = .ok .avail ∧ wordWellFormed 0xD000#16 = true) ∧
    (decode 0x9001#16 = .error .dataNotZero ∧ wordWellFormed 0x9001#16 = false) := by decide

theorem witness_OpcodeRowsAreDisjoint :
    let r : OpRow := ⟨.fput, 0xF700#16, 0x1000#16⟩
    r ∈ opRows ∧ r.selects 0x1041#16 = true := by decide

/-- The foreground at rest with a command word and its turn. -/
def issuing (w : Word16) (n : Nat) : State := { fresh 16 with cmds := [w], turns := [.foreground n] }

theorem witness_StepRunsTheDecodedCommand :
    let s := issuing 0x8041#16 0
    s.cfg.wellFormed = true ∧ s.ready = true ∧ s.boot = .done ∧ s.turns = .foreground 0 :: [] ∧
    s.cmds = 0x8041#16 :: [] ∧ decode 0x8041#16 = .ok (.write 0x41#8) ∧ (Instr.write 0x41#8).wellFormed = true := by
  decide

theorem witness_IllegalWordOnlyRecordsItsMarker :
    let s := issuing 0x5000#16 1
    s.cfg.wellFormed = true ∧ s.ready = true ∧ s.boot = .done ∧ s.turns = .foreground 1 :: [] ∧
    s.cmds = 0x5000#16 :: [] ∧ wordWellFormed 0x5000#16 = false := by decide

/-- Both outcomes: a startable receive handler, and a transmit handler whose condition is not pending. -/
theorem witness_InterruptTurnStartsOnlyAStartableHandler :
    (let s := { fresh 16 with per := received (good 0x7A), turns := [.interrupt .receive 5] }
     s.cfg.wellFormed = true ∧ s.turns = .interrupt .receive 5 :: [] ∧ s.startable .receive = true) ∧
    (let s := { fresh 16 with turns := [.interrupt .transmit 0] }
     s.cfg.wellFormed = true ∧ s.turns = .interrupt .transmit 0 :: [] ∧ s.startable .transmit = false) := by decide

theorem witness_InterruptEntrySetsOnlyTheHandlersPhase :
    let s := { fresh 16 with grant := 0 }
    s.txi.pc = .idle ∧ s.rxi.pc = .idle ∧ s.grant = 0 := by decide

theorem witness_NothingButTheHandlerStepsWhileOneIsActive :
    (let s := { inHandler with turns := [.foreground 1] }
     s.handlerActive = true ∧ s.cfg.wellFormed = true ∧ s.turns = .foreground 1 :: []) ∧
    (let s := { inHandler with turns := [.boot 1] }
     s.handlerActive = true ∧ s.cfg.wellFormed = true ∧ s.turns = .boot 1 :: []) ∧
    (let s := { inHandler with turns := [.interrupt .receive 1], per := received (good 0x7A) }
     s.handlerActive = true ∧ s.cfg.wellFormed = true ∧ s.turns = .interrupt .receive 1 :: []) := by decide

theorem witness_OnlyTheForegroundMovesItsContext :
    ∃ t, let s := { inHandler with turns := [.handler 1] }
      s.turns = .handler 1 :: [] ∧ (∀ n, Turn.handler 1 ≠ .foreground n) ∧ step s = .next t :=
  ⟨_, rfl, fun _ h => Turn.noConfusion h, rfl⟩

theorem witness_StepAlwaysGoesOn :
    (fresh 1).cfg.wellFormed = true ∧ (fresh 1).cfg.emptyGet = .stale ∧
    ({ Config.standard with emptyGet := .fault } : Cfg).wellFormed = true := by decide

/-- Both sides of the equivalence, at the boundaries 256, 257 and 0. -/
theorem witness_BadConfigurationIsRefused :
    (after (step (fresh 256))).isSome = true ∧
    step { fresh 16 with cfg := { Config.standard with capTx := 257 } } = .refused .badConfiguration ∧
    step { fresh 16 with cfg := { Config.standard with capRx := 0 } } = .refused .badConfiguration ∧
    step { fresh 16 with cfg := { Config.standard with capRx := 10, modeRx := .mask } } = .refused .badConfiguration :=
  ⟨by decide, rfl, rfl, rfl⟩

/-- The clause about the reference peripheral. -/
theorem witness_ResetLeavesTheStatedValues : Config.standard.env = .reference := by decide

theorem witness_ResetMeetsTheInvariants :
    Config.standard.wellFormed = true ∧ 8 ≤ Config.standard.capTx ∧
    ({ Config.standard with capTx := 8 } : Cfg).wellFormed = true := by decide

/-- A step with a command running: WRITE 0x41 from reset, one action at a time. -/
theorem witness_StepKeepsTheInvariant :
    ∃ t, (issuing 0x8041#16 1).Inv ∧ step (issuing 0x8041#16 1) = .next t := ⟨_, by decide, rfl⟩

theorem witness_ConfigurationAndConstructionAreFixed :
    ∃ t, step (issuing 0x8041#16 1) = .next t ∧ (issuing 0x8041#16 1).boot = .done := ⟨_, rfl, rfl⟩

theorem witness_MarkersAndTraceOnlyGrow :
    ∃ t, step { issuing 0x8041#16 1 with markers := [.txThrottle] } = .next t := ⟨_, rfl⟩

theorem witness_ConstructionSequence :
    let s := { fresh 16 with boot := .k1get, turns := [.boot 7], tx := oneQueued }
    s.cfg.wellFormed = true ∧ s.boot = .k1get ∧ s.handlerActive = false ∧ s.turns = .boot 7 :: [] := by decide

/-- The three changes of the flag: S7, T4 and K3. -/
theorem witness_FlagIsWrittenOnlyAtS7AndT4 :
    (∃ t, act .fg { fresh 16 with fg := { Ctx.reset with pc := .s7 } } = .next t ∧ t.stalled ≠ true) ∧
    (∃ t, act .txi { fresh 16 with txi := { Ctx.reset with pc := .t4 }, stalled := false } = .next t ∧
      t.stalled ≠ false) ∧
    (bootAct { fresh 16 with boot := .k3, stalled := false }).stalled ≠ false :=
  ⟨⟨_, rfl, by decide⟩, ⟨_, rfl, by decide⟩, by decide⟩

/-- The wrap in either form and the smallest and largest capacity. -/
theorem witness_SuccessorIsModuloCapacity :
    (capacityOk 256 = true ∧ modeOk .mask 256 = true ∧ (255#8).toNat < 256) ∧
    (capacityOk 10 = true ∧ modeOk .modulo 10 = true ∧ (9#8).toNat < 10) ∧
    (capacityOk 1 = true ∧ modeOk .mask 1 = true ∧ (0#8).toNat < 1) := by decide

theorem witness_MaskAndModuloFormsAgree : 8 ≤ 8 ∧ (255#8).toNat < 2 ^ 8 ∧ (0#8).toNat < 2 ^ 0 := by decide

/-- put below get, put above get, and the two equal. -/
theorem witness_OccupancyIsTheIndexDifference :
    ((fifoAt 14 3 [] 5).get.toNat < 16 ∧ (fifoAt 14 3 [] 5).put.toNat < 16) ∧
    ((fifoAt 3 14 [] 11).get.toNat < 16 ∧ (fifoAt 3 14 [] 11).put.toNat < 16) ∧
    ((fifoAt 0 0 [] 0).get.toNat < 1 ∧ (fifoAt 0 0 [] 0).put.toNat < 1) := by decide

/-- At the threshold of eight slots (7), and a capacity below eight. -/
theorem witness_WatermarkThreshold :
    ({ fresh 8 with tx := fifoAt 1 0 [] 7 } : State).Inv ∧
    ({ fresh 7 with tx := fifoAt 1 0 [] 6 } : State).Inv ∧ (fresh 7).cap .tx < 8 := by decide

theorem witness_FclrZeroesBothIndices : ({ fresh 16 with grant := 2 } : State).ready = true := by decide

/-- With room, and with C unread elements. -/
theorem witness_FputStoresAndAdvances :
    (fresh 16).ready = true ∧ 2 ≤ (fresh 16).grant ∧ (fresh 16).tx.cnt ≠ (fresh 16).cap .tx ∧
    ({ fresh 4 with tx := fullFour } : State).ready = true ∧ fullFour.cnt = (fresh 4).cap .tx := by decide

theorem witness_FgetReturnsAndAdvances :
    let s := { fresh 16 with tx := fifoAt 15 2 [(15, 0xAB)] 3, grant := 2 }
    s.ready = true ∧ 2 ≤ s.grant ∧ (s.fifo .tx).cnt ≠ 0 ∧
    memRead (s.fifo .tx).store (s.fifo .tx).get.toNat = some 0xAB := by decide

/-- V-GET3 on the inbound FIFO, so that the clause about READ is met too; and a second empty get, the indices already apart. -/
theorem witness_EmptyGetReturnsTheStaleElement :
    (let s := { fresh 2 with rx := fifoAt 0 0 [(0, 0xA0), (1, 0xB1)] 0 }
     s.ready = true ∧ 2 ≤ s.grant ∧ s.cfg.emptyGet = .stale ∧ s.cfg.wellFormed = true ∧ (s.fifo .rx).cnt = 0 ∧
     (s.fifo .rx).get.toNat < s.cap .rx ∧ (s.fifo .rx).put = (s.fifo .rx).get ∧
     memRead (s.fifo .rx).store (s.fifo .rx).get.toNat = some 0xA0) ∧
    (let s := { fresh 2 with rx := fifoAt 1 0 [(0, 0xA0), (1, 0xB1)] 0 }
     s.ready = true ∧ 2 ≤ s.grant ∧ s.cfg.emptyGet = .stale ∧ s.cfg.wellFormed = true ∧ (s.fifo .rx).cnt = 0 ∧
     (s.fifo .rx).get.toNat < s.cap .rx ∧ (s.fifo .rx).put ≠ (s.fifo .rx).get ∧
     memRead (s.fifo .rx).store (s.fifo .rx).get.toNat = some 0xB1) := by decide

/-- One state for all four clauses: count 0 although the outbound indices differ (after an empty get); and the last one in
handler context. -/
theorem witness_EmptyGetFaultsUnderTheFaultPolicy :
    (let s := { fresh 4 with tx := fifoAt 2 1 [(0, 0x41)] 0, cfg := { (fresh 4).cfg with emptyGet := .fault } }
     s.cfg.emptyGet = .fault ∧ s.ready = true ∧ s.handlerActive = false ∧ s.canResume = true ∧ 5 ≤ s.grant ∧
     s.tx.cnt = 0 ∧ s.rx.cnt = 0 ∧ 0 < s.occ .tx ∧ s.stalled = true ∧ s.txEmptyAnswer = true) ∧
    (let s := { inHandler with tx := fifoAt 2 1 [(0, 0x41)] 0, cfg := { (fresh 4).cfg with emptyGet := .fault } }
     s.cfg.emptyGet = .fault ∧ s.canResume = true ∧ s.resumer = .txi ∧ 5 ≤ s.grant ∧ s.tx.cnt = 0 ∧
     0 < s.occ .tx ∧ s.stalled = true ∧ s.txEmptyAnswer = true) := by decide

/-- An oracle that answers false ten times, under the policy `stale`. -/
def neverEmpty : State :=
  { fresh 8 with cfg := { (fresh 8).cfg with env := .oracle }, oracle := { txEmpty := List.replicate 10 false, status := [] } }

/-- True count 0 with the indices apart and the slot at get written: the outbound FIFO after P6 (spec/95), STALLED. -/
def staleQueue : State := { fresh 4 with tx := fifoAt 0 3 [(0, 0x41)] 0 }

/-- FGET and READ from reset; TXRDY and RESUME with the indices one past the written slots, in either environment. -/
theorem witness_UnwrittenSlotReadsAsAFreeValue :
    (let s := fresh 16
     s.ready = true ∧ 2 ≤ s.grant ∧ s.cfg.emptyGet = .stale ∧
     memRead (s.fifo .tx).store (s.fifo .tx).get.toNat = none ∧
     memRead (s.fifo .rx).store (s.fifo .rx).get.toNat = none) ∧
    (let s := { fresh 4 with tx := fifoAt 2 1 [(0, 0x41)] 0, grant := 7 }
     s.ready = true ∧ 7 ≤ s.grant ∧ s.cfg.emptyGet = .stale ∧
     memRead (s.fifo .tx).store (s.fifo .tx).get.toNat = none ∧ 0 < s.occ .tx ∧ s.stalled = true ∧
     s.txEmptyAnswer = true) ∧
    (let s := { fresh 4 with
       tx := fifoAt 2 1 [(0, 0x41)] 0, cfg := { (fresh 4).cfg with env := .oracle },
       oracle := { txEmpty := [true], status := [] } }
     s.ready = true ∧ memRead (s.fifo .tx).store (s.fifo .tx).get.toNat = none ∧ 0 < s.occ .tx ∧
     s.txEmptyAnswer = true) := by decide

/-- In the foreground, and in handler context. -/
theorem witness_PureCommandsAnswerAndChangeNothing :
    ((fresh 16).ctx (fresh 16).issuer).pc = .idle ∧ (inHandler.ctx inHandler.issuer).pc = .idle ∧
    inHandler.issuer = .call := by decide

/-- Each of the three commands, with a slice that ends inside it and with one that completes it. -/
theorem witness_ContainerFrame :
    (∃ t, exec (.fclr .tx) { fresh 16 with grant := 1 } = .next t) ∧
    (∃ t, exec (.fput .tx 0x41#8) (fresh 16) = .next t) ∧ (∃ t, exec (.fget .tx) (fresh 16) = .next t) :=
  ⟨⟨_, rfl⟩, ⟨_, rfl⟩, ⟨_, rfl⟩⟩

theorem witness_OverflowOverwritesTheOldest :
    let s := { fresh 4 with tx := fullFour }
    s.ready = true ∧ 2 ≤ s.grant ∧ s.cfg.wellFormed = true ∧ 2 ≤ s.cap .tx ∧ (s.fifo .tx).cnt = s.cap .tx ∧
    (s.fifo .tx).put = (s.fifo .tx).get ∧ (s.fifo .tx).get.toNat < s.cap .tx := by decide

/-- put, get, put, put, get on a FIFO of two, full in between. -/
theorem witness_FifoOrderIsKept :
    let s := fresh 2
    let ops : List FifoOp := [.put 0xA0, .get, .put 0xB1, .put 0xC2, .get]
    s.Inv ∧ s.ready = true ∧ 2 ≤ s.grant ∧ (s.fifo .rx).cnt = 0 ∧ (s.fifo .rx).put = (s.fifo .rx).get ∧
    ∀ k, getsOf (ops.take k) ≤ (putsOf (ops.take k)).length ∧
      (putsOf (ops.take k)).length ≤ getsOf (ops.take k) + s.cap .rx := by
  refine ⟨by decide, by decide, by decide, by decide, by decide, fun k => ?_⟩
  match k with
  | 0 => decide
  | 1 => decide
  | 2 => decide
  | 3 => decide
  | 4 => decide
  | n + 5 =>
    rw [List.take_of_length_le (by simp)]
    decide

theorem witness_LengthIsPutsMinusGets :
    let s := { fresh 4 with tx := fullFour }
    s.Inv ∧ s.ready = true ∧ 2 ≤ s.grant ∧ s.cfg.emptyGet = .stale ∧ (s.fifo .tx).put = (s.fifo .tx).get := by decide

/-- With a full FIFO and the foreground between an FPUT's two actions. -/
theorem witness_OccupancyIsTheTrueCountModuloCapacity :
    ∃ t, let s := { fresh 4 with tx := fullFour, turns := [.foreground 1],
                                 fg := { Ctx.reset with pc := .p2, sel := .rx } }
      s.CountLaw .tx ∧ s.CountLaw .rx ∧ step s = .next t := ⟨_, by decide, by decide, rfl⟩

/-- ACTIVE below the watermark; STALLED with one slot, where the put wraps the occupancy to 0 (V-WR4); and a full FIFO that
looks empty (P7 step 6). -/
theorem witness_WriteQueuesWithoutAKick :
    (let s := { fresh 16 with tx := fifoAt 1 14 [] 13, stalled := false, grant := 7 }
     s.ready = true ∧ 7 ≤ s.grant ∧ s.watermark = false ∧ s.tx.cnt ≠ s.cfg.capTx ∧ s.stalled = false) ∧
    (let s := fresh 1
     s.ready = true ∧ 7 ≤ s.grant ∧ s.watermark = false ∧ s.tx.cnt ≠ s.cfg.capTx ∧
     occOf s.cfg.capTx { s.tx with put := inc s.cfg.modeTx s.cfg.capTx s.tx.put } = 0) ∧
    (let s := { fresh 4 with tx := fullFour, stalled := false }
     s.ready = true ∧ 7 ≤ s.grant ∧ s.watermark = false ∧ s.tx.cnt = s.cfg.capTx ∧ s.stalled = false) := by decide

/-- The kick, from reset with two slots and with a full FIFO that looks empty; the hold at S3, with the reference peripheral
(V-WR3) and with an oracle that answers false. -/
theorem witness_WriteKicksAStalledTransmitter :
    (let s := { fresh 2 with grant := 12 }
     s.ready = true ∧ 12 ≤ s.grant ∧ s.watermark = false ∧ 0 < s.cfg.capTx ∧ s.stalled = true ∧
     s.txEmptyAnswer = true ∧ 0 < occOf s.cfg.capTx { s.tx with put := inc s.cfg.modeTx s.cfg.capTx s.tx.put } ∧
     memRead (memWrite s.tx.store s.tx.put.toNat 0x41) s.tx.get.toNat = some 0x41 ∧ s.cfg.env = .reference) ∧
    (let s := { fresh 4 with tx := fullFour }
     s.ready = true ∧ 12 ≤ s.grant ∧ s.watermark = false ∧ 0 < s.cfg.capTx ∧ s.stalled = true ∧
     s.txEmptyAnswer = true ∧ 0 < occOf s.cfg.capTx { s.tx with put := inc s.cfg.modeTx s.cfg.capTx s.tx.put } ∧
     memRead (memWrite s.tx.store s.tx.put.toNat 0x41) s.tx.get.toNat = some 0x41 ∧
     s.tx.cnt = s.cfg.capTx) ∧
    (let s := { fresh 16 with per := sending, grant := 8 }
     s.ready = true ∧ s.watermark = false ∧ 0 < s.cfg.capTx ∧ s.stalled = true ∧
     0 < occOf s.cfg.capTx { s.tx with put := inc s.cfg.modeTx s.cfg.capTx s.tx.put } ∧ 8 ≤ s.grant ∧
     s.pollsFalse (s.grant - 7)) ∧
    (let s := { neverEmpty with grant := 12 }
     s.ready = true ∧ s.watermark = false ∧ 0 < s.cfg.capTx ∧ s.stalled = true ∧
     0 < occOf s.cfg.capTx { s.tx with put := inc s.cfg.modeTx s.cfg.capTx s.tx.put } ∧ 8 ≤ s.grant ∧
     s.pollsFalse (s.grant - 7)) := by decide

/-- The first two clauses at the threshold of eight slots: ACTIVE; STALLED with the register empty, also at true count 0. -/
theorem witness_WriteHoldsAtTheWatermark :
    (let s := { fresh 8 with tx := fifoAt 1 0 [] 7, stalled := false, grant := 3 }
     s.ready = true ∧ s.watermark = true ∧ 0 < s.cfg.capTx ∧ 3 ≤ s.grant ∧ s.stalled = false) ∧
    (let s := { fresh 8 with tx := fifoAt 1 0 [(1, 0x02)] 7, grant := 9 }
     s.ready = true ∧ s.watermark = true ∧ 0 < s.cfg.capTx ∧ 9 ≤ s.grant ∧ s.Inv ∧ s.stalled = true ∧
     s.txEmptyAnswer = true ∧ s.tx.cnt ≠ 0 ∧ memRead s.tx.store s.tx.get.toNat = some 0x02 ∧
     s.cfg.env = .reference) ∧
    (let s := { fresh 8 with tx := fifoAt 1 0 [(1, 0x02)] 0 }
     s.ready = true ∧ s.watermark = true ∧ 0 < s.cfg.capTx ∧ 9 ≤ s.grant ∧ s.Inv ∧ s.stalled = true ∧
     s.txEmptyAnswer = true ∧ s.tx.cnt = 0 ∧ s.cfg.emptyGet = .stale ∧
     memRead s.tx.store s.tx.get.toNat = some 0x02) := by decide

/-- The third: STALLED with the register full, in either environment. -/
theorem witness_WriteHoldsAtTheWatermark_s3 :
    (let s := { fresh 8 with tx := fifoAt 1 0 [(1, 0x02)] 7, per := sending, grant := 5 }
     s.ready = true ∧ s.watermark = true ∧ 0 < s.cfg.capTx ∧ 5 ≤ s.grant ∧ s.stalled = true ∧
     s.cfg.env = .reference ∧ s.pollsFalse (s.grant - 4)) ∧
    (let s := { neverEmpty with tx := fifoAt 1 0 [(1, 0x02)] 7, grant := 6 }
     s.ready = true ∧ s.watermark = true ∧ 0 < s.cfg.capTx ∧ 5 ≤ s.grant ∧ s.stalled = true ∧
     s.cfg.env = .oracle ∧ s.pollsFalse (s.grant - 4)) := by decide

/-- The clauses: occupancy 1; occupancy 0 with the port ACTIVE; STALLED with one slot; STALLED with two, so that it kicks. -/
theorem witness_DrainWaitEndsAtOccupancyZero :
    (let s := { fresh 8 with tx := fifoAt 7 0 [(7, 0x08)] 1, stalled := false, fg := { Ctx.reset with pc := .w3 } }
     s.fg.pc = .w3 ∧ s.occ .tx ≠ 0) ∧
    (let s := { fresh 8 with stalled := false, fg := { Ctx.reset with pc := .w3, b := 0x09 } }
     s.fg.pc = .w3 ∧ s.stalled = false ∧ s.occ .tx = 0) ∧
    (let s := { fresh 1 with fg := { Ctx.reset with pc := .w3, b := 0x09 } }
     s.fg.pc = .w3 ∧ s.stalled = true ∧ s.occ .tx = 0 ∧
     occOf s.cfg.capTx { s.tx with put := inc s.cfg.modeTx s.cfg.capTx s.tx.put } = 0) ∧
    (let s := { fresh 2 with fg := { Ctx.reset with pc := .w3, b := 0x09 } }
     s.fg.pc = .w3 ∧ s.occ .tx = 0 ∧ s.Inv ∧ 2 ≤ s.cfg.capTx ∧ s.stalled = true ∧ s.txEmptyAnswer = true ∧
     s.cfg.env = .reference) := by decide

/-- The last clause: STALLED with the register full, in either environment. -/
theorem witness_DrainWaitEndsAtOccupancyZero_s3 :
    (let s := { fresh 2 with per := sending, fg := { Ctx.reset with pc := .w3, b := 0x09 } }
     s.fg.pc = .w3 ∧ s.occ .tx = 0 ∧ s.Inv ∧ 2 ≤ s.cfg.capTx ∧ s.stalled = true ∧ s.pollsFalse (8 - 7)) ∧
    (let s := { neverEmpty with fg := { Ctx.reset with pc := .w3, b := 0x09 } }
     s.fg.pc = .w3 ∧ s.occ .tx = 0 ∧ s.Inv ∧ 2 ≤ s.cfg.capTx ∧ s.stalled = true ∧ s.pollsFalse (12 - 7)) := by decide

theorem witness_WriteInHandlerContextIsRefused : inHandler.handlerActive = true := by decide

theorem witness_WriteFrame : ∃ t, exec (.write 0x41#8) (fresh 16) = .next t := ⟨_, rfl⟩

/-- ACTIVE with data queued in the foreground, and STALLED with none in handler context. -/
theorem witness_ResumeIsANoOpWhenActiveOrEmpty :
    (let s := { fresh 16 with tx := fifoAt 1 3 [] 2, stalled := false, grant := 2 }
     s.canResume = true ∧ s.resumer = .fg ∧ 2 ≤ s.grant ∧ s.stalled = false) ∧
    (let s := { inHandler with tx := fifoAt 2 2 [] 0, grant := 2 }
     s.canResume = true ∧ s.resumer = .txi ∧ 2 ≤ s.grant ∧ s.occ .tx = 0) := by decide

/-- With one byte queued, and at true count 0. -/
theorem witness_ResumeKicks :
    (let s := { fresh 16 with tx := oneQueued, grant := 7 }
     s.ready = true ∧ 7 ≤ s.grant ∧ s.stalled = true ∧ 0 < s.occ .tx ∧ s.txEmptyAnswer = true ∧
     memRead s.tx.store s.tx.get.toNat = some 0x41 ∧ s.tx.cnt ≠ 0 ∧ s.cfg.env = .reference) ∧
    (let s := staleQueue
     s.ready = true ∧ 7 ≤ s.grant ∧ s.stalled = true ∧ 0 < s.occ .tx ∧ s.txEmptyAnswer = true ∧
     memRead s.tx.store s.tx.get.toNat = some 0x41 ∧ s.tx.cnt = 0 ∧ s.cfg.emptyGet = .stale) := by decide

/-- In the foreground with the register full, in TXI with an oracle that answers false; and a context at S3. -/
theorem witness_ResumeWaitsForTheEmptyRegister :
    (let s := { fresh 16 with tx := oneQueued, per := sending, grant := 3 }
     s.canResume = true ∧ s.resumer = .fg ∧ 3 ≤ s.grant ∧ s.stalled = true ∧ 0 < s.occ .tx ∧
     s.pollsFalse (s.grant - 2)) ∧
    (let s := { neverEmpty with tx := oneQueued, txi := { Ctx.reset with pc := .t3, v := 0x99 }, grant := 12 }
     s.canResume = true ∧ s.resumer = .txi ∧ 3 ≤ s.grant ∧ s.stalled = true ∧ 0 < s.occ .tx ∧
     s.cfg.env = .oracle ∧ s.pollsFalse (s.grant - 2)) ∧
    (({ fresh 16 with rxi := { Ctx.reset with pc := .s3, ret := .x4 } } : State).ctx .rxi).pc = .s3 := by decide

/-- In TXI between G2 and T3 with a byte in `v`, in RXI at X4, and at true count 0. -/
theorem witness_ResumeKicksInHandlerContext :
    (let s := { fresh 16 with tx := oneQueued, txi := { Ctx.reset with pc := .t3, v := 0x99 }, grant := 7 }
     s.handlerActive = true ∧ s.canResume = true ∧ 7 ≤ s.grant ∧ s.stalled = true ∧ 0 < s.occ .tx ∧
     s.txEmptyAnswer = true ∧ memRead s.tx.store s.tx.get.toNat = some 0x41 ∧ s.tx.cnt ≠ 0 ∧
     s.activeHandler = .txi) ∧
    (let s := { fresh 16 with tx := oneQueued, rxi := { Ctx.reset with pc := .x4 } }
     s.handlerActive = true ∧ s.canResume = true ∧ 7 ≤ s.grant ∧ s.stalled = true ∧ 0 < s.occ .tx ∧
     s.txEmptyAnswer = true ∧ memRead s.tx.store s.tx.get.toNat = some 0x41 ∧ s.tx.cnt ≠ 0 ∧
     s.activeHandler = .rxi) ∧
    (let s := { staleQueue with rxi := { Ctx.reset with pc := .x4 } }
     s.handlerActive = true ∧ s.canResume = true ∧ 7 ≤ s.grant ∧ s.stalled = true ∧ 0 < s.occ .tx ∧
     s.txEmptyAnswer = true ∧ memRead s.tx.store s.tx.get.toNat = some 0x41 ∧ s.tx.cnt = 0 ∧
     s.cfg.emptyGet = .stale) := by decide

/-- RESUME and READ, in the foreground and in handler context. -/
theorem witness_ResumeAndReadFrame :
    (∃ t, inHandler.resumer = .txi ∧ exec .resume inHandler = .next t) ∧
    (∃ t, (fresh 16).resumer = .fg ∧ exec .resume (fresh 16) = .next t) ∧
    (∃ t, inHandler.issuer = .call ∧ exec .read inHandler = .next t) ∧
    (∃ t, (fresh 16).issuer = .fg ∧ exec .read (fresh 16) = .next t) :=
  ⟨⟨_, rfl, rfl⟩, ⟨_, rfl, rfl⟩, ⟨_, rfl, rfl⟩, ⟨_, rfl, rfl⟩⟩

theorem witness_ReadDequeuesOneInboundByte :
    let s := { fresh 16 with rx := fifoAt 0 1 [(0, 0x7A)] 1, grant := 2 }
    s.ready = true ∧ 2 ≤ s.grant ∧ s.rx.cnt ≠ 0 ∧ memRead s.rx.store s.rx.get.toNat = some 0x7A := by decide

/-- WRITE at W4 with six of eight queued: the put that reaches the bound of seven. -/
theorem witness_WatermarkPreventsOutboundOverflow :
    ∃ t, let s := { fresh 8 with tx := fifoAt 1 7 [] 6, turns := [.foreground 3], stalled := false,
                                 fg := { Ctx.reset with pc := .w4, b := 0x08 } }
      s.TxGuard ∧ step s = .next t ∧ t.tx.cnt = 7 := ⟨_, by decide, rfl, by decide⟩

/-- The register empty, the register full, true count 0 (P6's last slot sent stale), and the oracle. -/
theorem witness_TxrdySendsOneByte :
    (let s := { fresh 16 with tx := oneQueued, grant := 6 }
     s.handlerActive = false ∧ 6 ≤ s.grant ∧ 0 < s.occ .tx ∧ s.tx.cnt ≠ 0 ∧
     memRead s.tx.store s.tx.get.toNat = some 0x41 ∧ s.cfg.env = .reference ∧ s.per.txEmpty = true) ∧
    (let s := { fresh 16 with tx := oneQueued, per := sending }
     s.handlerActive = false ∧ 6 ≤ s.grant ∧ 0 < s.occ .tx ∧ s.tx.cnt ≠ 0 ∧
     memRead s.tx.store s.tx.get.toNat = some 0x41 ∧ s.cfg.env = .reference ∧ s.per.txEmpty = false) ∧
    (let s := staleQueue
     s.handlerActive = false ∧ 6 ≤ s.grant ∧ 0 < s.occ .tx ∧ s.tx.cnt = 0 ∧ s.cfg.emptyGet = .stale ∧
     memRead s.tx.store s.tx.get.toNat = some 0x41) ∧
    (let s := { neverEmpty with tx := oneQueued }
     s.handlerActive = false ∧ 6 ≤ s.grant ∧ 0 < s.occ .tx ∧ s.tx.cnt ≠ 0 ∧
     memRead s.tx.store s.tx.get.toNat = some 0x41 ∧ s.cfg.env = .oracle) := by decide

theorem witness_TxrdyStallsOnAnEmptyQueue :
    let s := { fresh 16 with grant := 3 }
    s.handlerActive = false ∧ 3 ≤ s.grant ∧ s.occ .tx = 0 := by decide

/-- With room, and with CAP_RX unread bytes. -/
theorem witness_RxrdyEnqueuesAGoodByte :
    (let s := { fresh 16 with per := received (good 0x7A), grant := 5 }
     s.handlerActive = false ∧ 5 ≤ s.grant ∧ s.statusAnswer.oe = false ∧ s.statusAnswer.fe = false ∧
     s.statusAnswer.pe = false ∧ s.statusAnswer.sum = false ∧ s.rx.cnt ≠ s.cfg.capRx) ∧
    (let s := { fresh 4 with per := received (good 0x33), rx := fullFour }
     s.handlerActive = false ∧ 5 ≤ s.grant ∧ s.statusAnswer.oe = false ∧ s.statusAnswer.fe = false ∧
     s.statusAnswer.pe = false ∧ s.statusAnswer.sum = false ∧ s.rx.cnt = s.cfg.capRx) := by decide

/-- Each flag alone. -/
theorem witness_RxrdyDropsAByteWithAnErrorFlag :
    (fresh 16).handlerActive = false ∧ 3 ≤ (fresh 16).grant ∧
    ({ fresh 16 with per := received { good 0x55 with oe := true } } : State).statusAnswer.oe = true ∧
    ({ fresh 16 with per := received { good 0x41 with fe := true } } : State).statusAnswer.fe = true ∧
    ({ fresh 16 with per := received { good 0x41 with pe := true } } : State).statusAnswer.pe = true ∧
    ({ fresh 16 with per := received { good 0x41 with sum := true } } : State).statusAnswer.sum = true := by decide

theorem witness_HandlerFrame :
    (∃ t, exec .txrdy { fresh 16 with tx := oneQueued } = .next t) ∧
    (∃ t, exec .rxrdy { fresh 16 with per := received (good 0x7A) } = .next t) := ⟨⟨_, rfl⟩, ⟨_, rfl⟩⟩

/-- P5 between steps 2 and 3: FG at S7, the queue empty, the register empty, transmit-ready pending; in a RESUME of its own
and in WRITE's first one. -/
theorem witness_LostWakeUp :
    (let s := { fresh 16 with
       tx := fifoAt 1 1 [(0, 0x41)] 0, fg := { Ctx.reset with pc := .s7 }, per := { Per.reset with txIrq := true }
       turns := [.interrupt .transmit 3, .foreground 2] }
     s.cfg.wellFormed = true ∧ s.boot = .done ∧ s.fg.pc = .s7 ∧ s.fg.ret = .idle ∧ s.startable .transmit = true ∧
     s.occ .tx = 0 ∧ s.turns = .interrupt .transmit (0 + 3) :: .foreground (1 + 1) :: [] ∧
     s.cfg.env = .reference ∧ s.per.txEmpty = true) ∧
    (let s := { fresh 16 with
       tx := fifoAt 1 1 [(0, 0x41)] 0, fg := { Ctx.reset with pc := .s7, ret := .w3 }
       per := { Per.reset with txIrq := true }, turns := [.interrupt .transmit 3, .foreground 1] }
     s.cfg.wellFormed = true ∧ s.boot = .done ∧ s.fg.pc = .s7 ∧ s.startable .transmit = true ∧
     s.occ .tx = 0 ∧ s.turns = .interrupt .transmit (0 + 3) :: .foreground (0 + 1) :: []) := by decide

/-- P6 between steps 2 and 3: FG at S5 with the byte read, transmit-ready raised by the oracle, that byte alone queued; and the
same with two bytes queued. -/
theorem witness_DoubleDequeue :
    (let s := { fresh 4 with
       tx := oneQueued, fg := { Ctx.reset with pc := .s5, v := 0x41 }, per := { Per.reset with txIrq := true }
       cfg := { (fresh 4).cfg with env := .oracle }, turns := [.interrupt .transmit 6, .foreground 3] }
     s.cfg.wellFormed = true ∧ s.cfg.emptyGet = .stale ∧ s.boot = .done ∧ s.fg.pc = .s5 ∧ s.fg.ret = .idle ∧
     s.fg.v = 0x41 ∧ s.tx.cnt = 1 ∧ 0 < s.occ .tx ∧ memRead s.tx.store s.tx.get.toNat = some 0x41 ∧
     s.startable .transmit = true ∧ s.turns = .interrupt .transmit (0 + 6) :: .foreground (0 + 3) :: [] ∧
     s.Inv ∧ s.occ .tx = 1) ∧
    (let s := { fresh 4 with
       tx := fifoAt 0 2 [(0, 0x41), (1, 0x42)] 2, fg := { Ctx.reset with pc := .s5, v := 0x41 }
       per := { Per.reset with txIrq := true }
       cfg := { (fresh 4).cfg with env := .oracle, emptyGet := .fault }
       turns := [.interrupt .transmit 6, .foreground 3] }
     s.cfg.wellFormed = true ∧ s.boot = .done ∧ s.fg.pc = .s5 ∧ s.fg.ret = .idle ∧ s.fg.v = 0x41 ∧ 2 ≤ s.tx.cnt ∧
     0 < s.occ .tx ∧ memRead s.tx.store s.tx.get.toNat = some 0x41 ∧ s.startable .transmit = true ∧
     s.turns = .interrupt .transmit (0 + 6) :: .foreground (0 + 3) :: []) := by decide

theorem witness_AcknowledgeClearsALaterCondition :
    let s := { inHandler with per := sending, turns := [.peripheral .txDone, .handler 1] }
    s.cfg.wellFormed = true ∧ s.cfg.env = .reference ∧ s.txi.pc = .t5 ∧ s.call.pc = .idle ∧ s.per.txEmpty = false ∧
    s.turns = .peripheral .txDone :: .handler (0 + 1) :: [] := by decide

/-- The clauses: TX_DONE with the register full and empty, RX_ARRIVE with a frame, without one and with receive-ready still
pending, a step of the other environment in each, the oracle's raise. -/
theorem witness_PeripheralStepsOfItsOwn :
    (let s := { fresh 16 with per := sending, turns := [.peripheral .txDone] }
     s.cfg.wellFormed = true ∧ s.turns = .peripheral .txDone :: [] ∧ s.cfg.env = .reference ∧
     s.per.txEmpty = false) ∧
    (let s := { fresh 16 with turns := [.peripheral .txDone] }
     s.turns = .peripheral .txDone :: [] ∧ s.cfg.env = .reference ∧ s.per.txEmpty = true) ∧
    (let s := { fresh 16 with per := { Per.reset with rxFeed := [good 0x7A] }, turns := [.peripheral .rxArrive] }
     s.turns = .peripheral .rxArrive :: [] ∧ s.per.rxFeed = good 0x7A :: [] ∧ s.per.rxIrq = false) ∧
    (let s := { fresh 16 with turns := [.peripheral .rxArrive] }
     s.turns = .peripheral .rxArrive :: [] ∧ s.per.rxFeed = []) ∧
    (let s := { fresh 16 with per := { received (good 0x7A) with rxFeed := [good 0x31] }, turns := [.peripheral .rxArrive] }
     s.cfg.wellFormed = true ∧ s.turns = .peripheral .rxArrive :: [] ∧ s.cfg.env = .reference ∧ s.per.rxIrq = true) ∧
    (let s := { fresh 16 with cfg := { Config.standard with env := .oracle }, turns := [.peripheral .txDone] }
     s.cfg.wellFormed = true ∧ s.turns = .peripheral .txDone :: [] ∧ s.cfg.env = .oracle) ∧
    (let s := { fresh 16 with turns := [.peripheral .raiseTransmit] }
     s.cfg.wellFormed = true ∧ s.turns = .peripheral .raiseTransmit :: [] ∧ s.cfg.env = .reference) ∧
    (let s := { fresh 16 with cfg := { Config.standard with env := .oracle }, turns := [.peripheral .raiseReceive] }
     s.cfg.wellFormed = true ∧ s.turns = .peripheral .raiseReceive :: [] ∧ s.cfg.env = .oracle) := by decide

end Sys2Proof.Tests
end

section
/-! The step of the foreground at rest as an equation: the schedule entry, then the command word, then the word's meaning. -/

namespace Sys2Proof.Machine

theorem State.ready_iff {s : State} : s.ready = true ↔ s.handlerActive = false ∧ s.fg.pc = .idle := by
  simp [State.ready]

@[simp] theorem State.ready_takeTurn (s : State) (r : List Turn) (n : Nat) : (s.takeTurn r n).ready = s.ready := by
  simp [State.ready]

/-- In a buildable configuration (R244) a step is the turn of the next schedule entry (log 1). -/
theorem step_of_turns_cons {s : State} {t : Turn} {rest : List Turn} (hw : s.cfg.wellFormed = true)
    (ht : s.turns = t :: rest) : step s = takeTurn t rest s := by
  simp [step, stepMachine, hw, ht]

/-- The foreground at rest, construction done, issues its next command word (R58 a, R61, R231). -/
theorem foregroundTurn_of_ready {s : State} {w : Word16} {cs : List Word16} (n : Nat) (hr : s.ready = true)
    (hb : s.boot = .done) (hc : s.cmds = w :: cs) : foregroundTurn n s = issueWord w (s.takeCommand cs) := by
  obtain ⟨hact, hpc⟩ := State.ready_iff.mp hr
  simp [foregroundTurn, hact, hb, hpc, hc]

/-- A foreground's turn at rest issues the next command word of the state without its schedule entry and that word. -/
theorem step_foreground_of_ready {s : State} {n : Nat} {rest : List Turn} {w : Word16} {cs : List Word16}
    (hw : s.cfg.wellFormed = true) (hr : s.ready = true) (hb : s.boot = .done) (ht : s.turns = .foreground n :: rest)
    (hc : s.cmds = w :: cs) : step s = issueWord w ((s.takeTurn rest n).takeCommand cs) := by
  calc step s = foregroundTurn n (s.takeTurn rest n) := step_of_turns_cons hw ht
    _ = issueWord w ((s.takeTurn rest n).takeCommand cs) :=
      foregroundTurn_of_ready n (by simpa using hr) (by simpa using hb) (by simpa using hc)

/-- A word that decodes is issued as the instruction it decodes to (R90). -/
theorem issueWord_of_decode_ok {w : Word16} {i : Instr} (h : decode w = .ok i) (s : State) :
    issueWord w s = exec i s := by
  simp [issueWord, h]

/-- Settles O7: the foreground's turn issues the word, and a word that decodes is issued as its instruction. -/
theorem stepRunsTheDecodedCommand : Obligations.StepRunsTheDecodedCommand := by
  unfold Obligations.StepRunsTheDecodedCommand
  intro s n rest w cs i hw hr hb ht hc hd _
  calc step s = issueWord w ((s.takeTurn rest n).takeCommand cs) := step_foreground_of_ready hw hr hb ht hc
    _ = exec i ((s.takeTurn rest n).takeCommand cs) := issueWord_of_decode_ok hd _
    _ = exec i { s with turns := rest, grant := n, cmds := cs } := rfl

end Sys2Proof.Machine
end

section
/-! Index arithmetic: the successor in either form is the successor modulo the capacity (R100 to R102), and the occupancy is
the index difference modulo the capacity (R103). -/

namespace Sys2Proof.Machine

/-- The capacities of the mask form are powers of two below the index range (R101). -/
theorem isPowerOfTwo_eq_two_pow {c : Nat} (h : isPowerOfTwo c = true) : ∃ k, k ≤ 8 ∧ c = 2 ^ k := by
  simp only [isPowerOfTwo, List.contains_eq_mem, decide_eq_true_eq, List.mem_cons, List.not_mem_nil, or_false] at h
  rcases h with rfl | rfl | rfl | rfl | rfl | rfl | rfl | rfl | rfl
  exacts [⟨0, by decide⟩, ⟨1, by decide⟩, ⟨2, by decide⟩, ⟨3, by decide⟩, ⟨4, by decide⟩, ⟨5, by decide⟩,
    ⟨6, by decide⟩, ⟨7, by decide⟩, ⟨8, by decide⟩]

/-- The general form wraps at the capacity (R100). -/
theorem incModulo_toNat {c : Nat} {i : Index} (hc : c ≤ 256) (hi : i.toNat < c) :
    (incModulo c i).toNat = (i.toNat + 1) % c := by
  unfold incModulo
  split
  · have hlast : i.toNat + 1 = c := by omega
    simp [hlast]
  · have hlt : i.toNat + 1 < c := by omega
    rw [Nat.mod_eq_of_lt hlt, BitVec.toNat_add, Nat.mod_eq_of_lt]
    · rfl
    · simpa using hlt.trans_le hc

/-- Masking with `2 ^ k - 1` is the remainder by `2 ^ k` (R101). -/
theorem incMask_toNat {k : Nat} {i : Index} (hk : k ≤ 8) : (incMask (2 ^ k) i).toNat = (i.toNat + 1) % 2 ^ k := by
  have hlt : (i.toNat + 1) % 2 ^ k < 2 ^ 8 :=
    (Nat.mod_lt _ (Nat.two_pow_pos k)).trans_le (Nat.pow_le_pow_right (by decide) hk)
  rw [incMask, BitVec.toNat_ofNat, Nat.and_two_pow_sub_one_eq_mod, Nat.mod_eq_of_lt hlt]

/-- In either form the successor of an index in range is the successor modulo the capacity (R100 to R102). -/
theorem inc_toNat {m : IndexMode} {c : Nat} {i : Index} (hc : capacityOk c = true) (hm : modeOk m c = true)
    (hi : i.toNat < c) : (inc m c i).toNat = (i.toNat + 1) % c := by
  cases m with
  | modulo =>
    simp only [capacityOk, Bool.and_eq_true, decide_eq_true_eq] at hc
    exact incModulo_toNat hc.2 hi
  | mask =>
    obtain ⟨k, hk, rfl⟩ := isPowerOfTwo_eq_two_pow hm
    exact incMask_toNat hk

/-- A buildable configuration's capacity and index mode, for either FIFO (R244). -/
theorem Cfg.wellFormed_fifo {c : Cfg} (h : c.wellFormed = true) (f : Sel) :
    capacityOk (c.cap f) = true ∧ modeOk (c.mode f) (c.cap f) = true := by
  simp only [Cfg.wellFormed, Bool.and_eq_true] at h
  obtain ⟨⟨⟨hct, hcr⟩, hmt⟩, hmr⟩ := h
  cases f
  · exact ⟨hct, hmt⟩
  · exact ⟨hcr, hmr⟩

/-- The configured successor of an index in range, in a buildable machine. -/
theorem State.inc_toNat {s : State} {f : Sel} {i : Index} (hw : s.cfg.wellFormed = true) (hi : i.toNat < s.cap f) :
    (inc (s.mode f) (s.cap f) i).toNat = (i.toNat + 1) % s.cap f :=
  Machine.inc_toNat (Cfg.wellFormed_fifo hw f).1 (Cfg.wellFormed_fifo hw f).2 hi

/-- Equal indices are occupancy 0 (R103). -/
theorem occOf_of_put_eq_get {q : Fifo} (c : Nat) (h : q.put = q.get) : occOf c q = 0 := by
  simp [occOf, h]

/-- The occupancy is the remainder of a number exactly when the index difference is congruent to it (R22, R103). -/
theorem occOf_eq_mod_iff {c : Nat} (hc : 0 < c) (q : Fifo) (n : Nat) :
    occOf c q = n % c ↔ (q.put.toNat - q.get.toNat : Int) ≡ n [ZMOD c] := by
  have hnn : 0 ≤ (q.put.toNat - q.get.toNat : Int) % c := Int.emod_nonneg _ (by omega)
  rw [occOf, Int.ModEq, ← Int.natCast_inj, Int.toNat_of_nonneg hnn, Int.natCast_mod]

end Sys2Proof.Machine
end

section
/-! What one atomic action does to one FIFO, to the flag and to the markers: the inversions that the step invariants
(R21, R35) and the frames use. -/

namespace Sys2Proof.Machine

/-- What an action of context `w` can do to the FIFO `f`: nothing, a dequeue's second action, one of FPUT's two, or one of
FCLR's two, the last two only inside an FCLR of `f` (R62, R104 to R106). -/
inductive FifoChange (f : Sel) (w : Who) (s t : State) : Prop
  | same (h : t.fifo f = s.fifo f)
  | dequeued (h : Dequeued f s t)
  | stored (v : Byte)
      (h : t.fifo f = { s.fifo f with store := memWrite (s.fifo f).store (s.fifo f).put.toNat v })
  | enqueued
      (h : t.fifo f = { s.fifo f with
        put := inc (s.mode f) (s.cap f) (s.fifo f).put
        cnt := if (s.fifo f).cnt = s.cap f then (s.fifo f).cnt else (s.fifo f).cnt + 1 })
      (hm : (s.fifo f).cnt = s.cap f → Marker.fifoOverflow f ∈ t.markers)
  | clearedGet (hc : clearing f (s.ctx w) = true) (h : t.fifo f = { s.fifo f with get := 0 })
  | clearedPut (hc : clearing f (s.ctx w) = true) (h : t.fifo f = { s.fifo f with put := 0, cnt := 0 })

theorem act_fifoChange {w : Who} {s t : State} (e : act w s = .next t) (f : Sel) : FifoChange f w s t := by
  have byFifo : ∀ {g : Sel}, (∀ k, k ≠ g → t.fifo k = s.fifo k) → (f = g → FifoChange f w s t) → FifoChange f w s t :=
    fun {g} hother hown => if hg : f = g then hown hg else .same (hother f hg)
  have hf := act_fifo e
  cases hpc : (s.ctx w).pc <;> simp only [hpc] at hf
  case s5 | d2 | g2 => exact byFifo hf.2.2 fun hg => .dequeued (hg ▸ hf)
  case p1 => exact byFifo hf.2 fun hg => .stored _ (hg ▸ hf.1)
  case p2 => exact byFifo hf.2.2 fun hg => .enqueued (hg ▸ hf.1) (hg ▸ hf.2.1)
  case c1 => exact byFifo hf.2 fun hg => .clearedGet (by simp [clearing, hpc, hg]) (hg ▸ hf.1)
  case c2 => exact byFifo hf.2 fun hg => .clearedPut (by simp [clearing, hpc, hg]) (hg ▸ hf.1)
  all_goals exact .same (hf f)

theorem actAdvance_stalled {f : Sel} {k : State → State} {s t : State} (hk : ∀ u, (k u).stalled = u.stalled)
    (e : actAdvance f k s = .next t) : t.stalled = s.stalled := by
  obtain ⟨u, hu, rfl⟩ := actAdvance_next e
  obtain ⟨-, hst, -⟩ := State.advanceGet_frame hu
  exact (hk u).trans hst

theorem finishGet_stalled (w : Who) (s : State) : (finishGet w s).stalled = s.stalled := by
  unfold finishGet
  split <;> simp

/-- The flag after an action, by phase: S7 clears it, T4 sets it, no other action writes it (R29). -/
theorem act_stalled {w : Who} {s t : State} (e : act w s = .next t) :
    t.stalled = match (s.ctx w).pc with
      | .s7 => false
      | .t4 => true
      | _ => s.stalled := by
  cases hpc : (s.ctx w).pc <;> simp only [act, hpc] at e
  case s5 => exact actAdvance_stalled (by simp) e
  case d2 => exact actAdvance_stalled (by simp [finishRead]) e
  case g2 => exact actAdvance_stalled (finishGet_stalled w) e
  all_goals
    cases e
    simp [actW1, actW3, actS1, actS2, actS3, actT1, actX1, actX2, apply_ite State.stalled]

end Sys2Proof.Machine
end

section
/-! The machine's invariant, taken apart by FIFO and by context, and what the parts of a step need to keep it (R21, R27, R28,
R58). -/

namespace Sys2Proof.Machine

theorem State.handlerActive_eq_false_iff {s : State} :
    s.handlerActive = false ↔ s.txi.pc = .idle ∧ s.rxi.pc = .idle := by
  simp [State.handlerActive]

/-- A context in a phase of its own, for each of the four contexts (R27, R28; log 5). -/
def ctxLegal (w : Who) (c : Ctx) : Bool :=
  match w with
  | .fg => commandCtxLegal true c
  | .txi => txiLegal c
  | .rxi => rxiLegal c
  | .call => commandCtxLegal false c

/-- At most one handler is active (R28, R58 a), and a command of handler context stands only inside a handler. -/
def State.exclusive (s : State) : Prop :=
  (s.txi.pc = .idle ∨ s.rxi.pc = .idle) ∧ (s.call.pc ≠ .idle → s.handlerActive = true)

theorem State.inv_iff {s : State} :
    s.Inv ↔ s.cfg.wellFormed = true ∧ (∀ f, fifoOk (s.cap f) (s.fifo f)) ∧ (∀ w, ctxLegal w (s.ctx w) = true) ∧
      s.exclusive := by
  constructor
  · rintro ⟨hw, htx, hrx, hfg, htxi, hrxi, hcall, hone, hin⟩
    exact ⟨hw, fun f => by cases f <;> assumption, fun w => by cases w <;> assumption, hone, hin⟩
  · rintro ⟨hw, hf, hc, hone, hin⟩
    exact ⟨hw, hf .tx, hf .rx, hc .fg, hc .txi, hc .rxi, hc .call, hone, hin⟩

/-- Context `w` may start or go on without a second handler becoming active or a command of handler context losing its
handler (R28, R58 a). -/
def State.mayMove (s : State) (w : Who) : Prop :=
  match w with
  | .fg => True
  | .txi => s.rxi.pc = .idle ∧ s.call.pc = .idle
  | .rxi => s.txi.pc = .idle ∧ s.call.pc = .idle
  | .call => s.handlerActive = true

/-- Whether `w` may move is settled by the other contexts alone. -/
theorem State.mayMove_congr {s t : State} {w : Who} (ho : ∀ u, u ≠ w → t.ctx u = s.ctx u) :
    t.mayMove w ↔ s.mayMove w := by
  cases w with
  | fg => exact Iff.rfl
  | txi =>
    have hr : t.rxi = s.rxi := ho .rxi (by decide)
    have hc : t.call = s.call := ho .call (by decide)
    simp [State.mayMove, hr, hc]
  | rxi =>
    have ht : t.txi = s.txi := ho .txi (by decide)
    have hc : t.call = s.call := ho .call (by decide)
    simp [State.mayMove, ht, hc]
  | call =>
    have ht : t.txi = s.txi := ho .txi (by decide)
    have hr : t.rxi = s.rxi := ho .rxi (by decide)
    simp [State.mayMove, State.handlerActive, ht, hr]

/-- A change of one context that may move keeps the exclusion. -/
theorem State.exclusive_of_mayMove {s t : State} {w : Who} (hs : s.exclusive) (hm : s.mayMove w)
    (ho : ∀ u, u ≠ w → t.ctx u = s.ctx u) : t.exclusive := by
  obtain ⟨hone, hin⟩ := hs
  have hm' := (State.mayMove_congr ho).2 hm
  cases w with
  | fg =>
    have ht : t.txi = s.txi := ho .txi (by decide)
    have hr : t.rxi = s.rxi := ho .rxi (by decide)
    have hc : t.call = s.call := ho .call (by decide)
    simpa [State.exclusive, State.handlerActive, ht, hr, hc] using And.intro hone hin
  | txi => exact ⟨.inr hm'.1, fun h => absurd hm'.2 h⟩
  | rxi => exact ⟨.inl hm'.1, fun h => absurd hm'.2 h⟩
  | call =>
    have ht : t.txi = s.txi := ho .txi (by decide)
    have hr : t.rxi = s.rxi := ho .rxi (by decide)
    exact ⟨by rwa [ht, hr], fun _ => hm'⟩

/-- The active handler may move when it has no command in the call frame (R58 a). -/
theorem State.mayMove_activeHandler {s : State} (hs : s.exclusive) (hc : s.call.pc = .idle) :
    s.mayMove s.activeHandler := by
  unfold State.activeHandler
  split
  next ht => exact ⟨hs.1.resolve_left (by simpa using ht), hc⟩
  next ht => exact ⟨by simpa using ht, hc⟩

/-- A handler may start while none is active (R58 c). -/
theorem State.mayMove_handlerOf {s : State} (hs : s.exclusive) (ha : s.handlerActive = false) (src : IrqSource) :
    s.mayMove (handlerOf src) := by
  obtain ⟨ht, hr⟩ := State.handlerActive_eq_false_iff.1 ha
  have hc : s.call.pc = .idle := by
    by_contra h
    simp [hs.2 h] at ha
  cases src
  · exact ⟨hr, hc⟩
  · exact ⟨ht, hc⟩

theorem State.mayMove_issuer (s : State) : s.mayMove s.issuer := by
  unfold State.issuer
  split
  next ha => exact ha
  next => trivial

/-- RESUME's context may move where RESUME can be issued (R133). -/
theorem State.mayMove_resumer {s : State} (hs : s.exclusive) (hr : s.canResume = true) : s.mayMove s.resumer := by
  unfold State.canResume at hr
  unfold State.resumer
  split at hr
  next ha =>
    simp only [State.handlerFree, Bool.and_eq_true, beq_iff_eq] at hr
    simpa [ha] using State.mayMove_activeHandler hs hr.2
  next ha => simp [ha, State.mayMove]

/-! ### How a command's context stands right after its issue -/

/-- The ways a context is entered: a handler starts (R210), a RESUME is issued (R133), or another command that `p` does not
hold of is issued (R61). -/
inductive Enters (p : Instr → Bool) (s : State) : Who → Ctx → Prop
  | handler (src : IrqSource) (ha : s.handlerActive = false) :
      Enters p s (handlerOf src) { s.ctx (handlerOf src) with pc := firstPhase src }
  | resume (hr : s.canResume = true) :
      Enters p s s.resumer { s.ctx s.resumer with pc := .s1, ret := (s.ctx s.resumer).pc }
  | command (i : Instr) (hp : p i = false) (hi : (s.ctx s.issuer).pc = .idle)
      (hw : ∀ b, i = .write b → s.handlerActive = false) :
      Enters p s s.issuer (entryOf i s (s.ctx s.issuer))

theorem Enters.mayMove {p : Instr → Bool} {s : State} {w : Who} {c : Ctx} (h : Enters p s w c) (hs : s.exclusive) :
    s.mayMove w := by
  cases h with
  | handler src ha => exact State.mayMove_handlerOf hs ha src
  | resume hr => exact State.mayMove_resumer hs hr
  | command => exact State.mayMove_issuer s

/-- An entered command stands in its own first phase; WRITE only where it may run. -/
theorem entryOf_legal {i : Instr} {s : State} {c : Ctx} {mayWrite : Bool} (hc : c.pc = .idle)
    (hw : ∀ b, i = .write b → mayWrite = true) : commandCtxLegal mayWrite (entryOf i s c) = true := by
  cases i with
  | fclr f =>
    simp only [entryOf, enterClear]
    split <;> rfl
  | write b => exact hw b rfl
  | fput | fget | read => rfl
  | flen | fsiz | resume | txrdy | rxrdy | avail => simp [entryOf, commandCtxLegal, hc]

/-- A RESUME that comes back to a handler's own phase is a legal phase of that handler (R133). -/
theorem resume_legal_of_handlerPhase {w : Who} {c : Ctx} (hw : w = .txi ∨ w = .rxi) (hl : ctxLegal w c = true)
    (hp : handlerPhase c.pc = true) : ctxLegal w { c with pc := .s1, ret := c.pc } = true := by
  rcases hw with rfl | rfl <;> cases hpc : c.pc <;>
    simp_all [ctxLegal, txiLegal, rxiLegal, txiOwn, rxiOwn, handlerPhase]

theorem State.activeHandler_eq (s : State) : s.activeHandler = .txi ∨ s.activeHandler = .rxi := by
  unfold State.activeHandler
  split <;> simp

theorem Enters.legal {p : Instr → Bool} {s : State} {w : Who} {c : Ctx} (h : Enters p s w c)
    (hs : ∀ w, ctxLegal w (s.ctx w) = true) : ctxLegal w c = true := by
  cases h with
  | handler src => cases src <;> rfl
  | resume hr =>
    by_cases ha : s.handlerActive = true
    · have hw : s.resumer = s.activeHandler := by simp [State.resumer, ha]
      simp only [State.canResume, ha, if_true, State.handlerFree, Bool.and_eq_true] at hr
      rw [hw]
      exact resume_legal_of_handlerPhase s.activeHandler_eq (hs _) hr.1
    · have hw : s.resumer = .fg := by simp [State.resumer, ha]
      have hpc : s.fg.pc = .idle := by simpa [State.canResume, ha] using hr
      simp [hw, State.ctx, hpc, ctxLegal, commandCtxLegal]
  | command i hp hi hw =>
    by_cases ha : s.handlerActive = true
    · have hc : s.issuer = .call := by simp [State.issuer, ha]
      rw [hc] at hi ⊢
      exact entryOf_legal hi (fun b hb => by simp [hw b hb] at ha)
    · have hc : s.issuer = .fg := by simp [State.issuer, ha]
      rw [hc] at hi ⊢
      exact entryOf_legal hi (fun _ _ => rfl)

/-! ### An action keeps its own context legal -/

/-- The phases of FPUT, FGET and RESUME, from which an operation comes back to the phase in `ret` (R27, R142). -/
def comesBack (p : Phase) : Bool :=
  match p with
  | .s1 | .s2 | .s3 | .s4 | .s5 | .s6 | .s7 | .p1 | .p2 | .g1 | .g2 => true
  | .idle | .w1 | .w2 | .w3 | .w4 | .w5 | .d1 | .d2 | .c1 | .c2 | .t1 | .t2 | .t3 | .t4 | .t5 | .x1 | .x2 | .x3 | .x4 =>
    false

/-- A command comes back to `IDLE`, and a call of WRITE to W3 or W5 (R142). -/
theorem commandCtxLegal_comesBack {mayWrite : Bool} {c : Ctx} (h : commandCtxLegal mayWrite c = true)
    (hp : comesBack c.pc = true) : c.ret = .idle ∨ mayWrite = true ∧ (c.ret = .w3 ∨ c.ret = .w5) := by
  cases hpc : c.pc <;> simp [commandCtxLegal, comesBack, hpc] at h hp <;> tauto

/-- A call of `TXI` comes back to a phase of its own (R133, R161). -/
theorem txiLegal_comesBack {c : Ctx} (h : txiLegal c = true) (hp : comesBack c.pc = true) : txiOwn c.ret = true := by
  cases hpc : c.pc <;> simp [txiLegal, comesBack, hpc] at h hp
  case g1 | g2 => simp [txiOwn, h]
  all_goals exact h

/-- A call of `RXI` comes back to a phase of its own (R133, R162). -/
theorem rxiLegal_comesBack {c : Ctx} (h : rxiLegal c = true) (hp : comesBack c.pc = true) : rxiOwn c.ret = true := by
  cases hpc : c.pc <;> simp [rxiLegal, comesBack, hpc] at h hp
  case p1 | p2 => simp [rxiOwn, h]
  all_goals exact h

/-- The phases a call comes back to, in whatever context it runs (R142, R161, R162). -/
theorem ctxLegal_comesBack {v : Who} {c : Ctx} (h : ctxLegal v c = true) (hp : comesBack c.pc = true) :
    match v with
    | .fg => c.ret = .idle ∨ c.ret = .w3 ∨ c.ret = .w5
    | .txi => txiOwn c.ret = true
    | .rxi => rxiOwn c.ret = true
    | .call => c.ret = .idle := by
  cases v with
  | fg => simpa using commandCtxLegal_comesBack h hp
  | txi => exact txiLegal_comesBack h hp
  | rxi => exact rxiLegal_comesBack h hp
  | call => simpa using commandCtxLegal_comesBack h hp

/-- FPUT, FGET and RESUME come back to a legal phase, in every context (R142, R161, R162). -/
theorem ctxLegal_ret {v : Who} {c : Ctx} (h : ctxLegal v c = true) (hp : comesBack c.pc = true) :
    ctxLegal v { c with pc := c.ret } = true := by
  have hret := ctxLegal_comesBack h hp
  cases v with
  | fg => rcases hret with hr | hr | hr <;> simp [ctxLegal, commandCtxLegal, hr]
  | txi => cases hr : c.ret <;> simp [txiOwn, ctxLegal, txiLegal, hr] at hret ⊢
  | rxi => cases hr : c.ret <;> simp [rxiOwn, ctxLegal, rxiLegal, hr] at hret ⊢
  | call => simp [ctxLegal, commandCtxLegal, show c.ret = .idle from hret]

/-- An action keeps its own context in a phase of its own (R27, R28, R142): it comes back to `ret`, or its next phase is
legal in the contexts its phase is. -/
theorem ctxLegal_act {w v : Who} {s t : State} (e : act w s = .next t) (h : ctxLegal v (s.ctx w) = true) :
    ctxLegal v (t.ctx w) = true := by
  have hc := act_ctx e
  cases hpc : (s.ctx w).pc <;> simp only [hpc] at hc
  case idle => exact hc ▸ h
  case s7 | p2 | g2 => exact hc ▸ ctxLegal_ret h (by rw [hpc]; rfl)
  case s1 | s2 =>
    rcases hc with hc | hc
    · cases v <;> simp_all [ctxLegal, commandCtxLegal, txiLegal, rxiLegal]
    · exact hc ▸ ctxLegal_ret h (by rw [hpc]; rfl)
  case w1 | w3 | s3 | t1 | x1 =>
    rcases hc with hc | hc <;> cases v <;> simp_all [ctxLegal, commandCtxLegal, txiLegal, rxiLegal]
  case c1 | c2 =>
    have hr : (s.ctx w).ret = .c1 ∨ (s.ctx w).ret = .c2 ∨ (s.ctx w).ret = .idle := by
      cases v <;> simp [ctxLegal, commandCtxLegal, txiLegal, rxiLegal, hpc] at h <;> tauto
    rcases hr with hr | hr | hr <;> cases v <;> simp_all [ctxLegal, commandCtxLegal, txiLegal, rxiLegal]
  all_goals cases v <;> simp_all [ctxLegal, commandCtxLegal, txiLegal, rxiLegal]

end Sys2Proof.Machine
end

section
/-! The invariant is kept: by an action, by construction, by a context's entry, and by the parts of a step that touch neither
the FIFOs nor a context. -/

namespace Sys2Proof.Machine

theorem FifoChange.fifoOk {f : Sel} {w : Who} {s t : State} (h : FifoChange f w s t) (hcfg : t.cfg = s.cfg)
    (hw : s.cfg.wellFormed = true) (hok : fifoOk (s.cap f) (s.fifo f)) : fifoOk (t.cap f) (t.fifo f) := by
  obtain ⟨hget, hput, hwf, hslots⟩ := hok
  have hpos : 0 < s.cap f := Nat.zero_lt_of_lt hget
  have hcap : t.cap f = s.cap f := congrArg (Cfg.cap · f) hcfg
  have hinc : ∀ {i : Index}, i.toNat < s.cap f → (inc (s.mode f) (s.cap f) i).toNat < s.cap f := fun hi => by
    rw [State.inc_toNat hw hi]
    exact Nat.mod_lt _ hpos
  rw [hcap]
  cases h with
  | same h => exact h ▸ ⟨hget, hput, hwf, hslots⟩
  | dequeued h => exact h.1 ▸ ⟨hinc hget, hput, hwf, hslots⟩
  | stored v h => exact h ▸ ⟨hget, hput, memWrite_wf hwf _ v, memWrite_bound hslots hput v⟩
  | enqueued h => exact h ▸ ⟨hget, hinc hput, hwf, hslots⟩
  | clearedGet _ h => exact h ▸ ⟨hpos, hput, hwf, hslots⟩
  | clearedPut _ h => exact h ▸ ⟨hget, hpos, hwf, hslots⟩

/-- An action of a context that may move keeps the invariant. -/
theorem State.inv_act {s t : State} {w : Who} (hs : s.Inv) (hm : s.mayMove w) (e : act w s = .next t) : t.Inv := by
  obtain ⟨hw, hf, hc, hx⟩ := State.inv_iff.1 hs
  obtain ⟨hcfg, -⟩ := act_fixed e
  refine State.inv_iff.2 ⟨hcfg ▸ hw, fun f => (act_fifoChange e f).fifoOk hcfg hw (hf f), fun u => ?_,
    State.exclusive_of_mayMove hx hm fun u hu => act_other hu e⟩
  by_cases hu : u = w
  · exact hu ▸ ctxLegal_act e (hc w)
  · rw [act_other hu e]
    exact hc u

/-- The entry of a context keeps the invariant (R61, R133, R210). -/
theorem State.inv_enter {p : Instr → Bool} {s : State} {w : Who} {c : Ctx} (hs : s.Inv) (he : Enters p s w c) :
    (s.setCtx w c).Inv := by
  obtain ⟨hw, hf, hc, hx⟩ := State.inv_iff.1 hs
  refine State.inv_iff.2 ⟨by simpa using hw, fun f => by simpa using hf f, fun u => ?_,
    State.exclusive_of_mayMove hx (he.mayMove hx) fun u hu => State.ctx_setCtx_other s c hu⟩
  by_cases hu : u = w
  · subst hu
    simpa using he.legal hc
  · rw [State.ctx_setCtx_other s c hu]
    exact hc u

/-! ### The parts of a step that touch neither the FIFOs nor a context -/

/-- What recording an event or a refusal, a step of PER, or using up a schedule entry, a command word or an order of FCLR
leaves: everything but the peripheral, the trace and the inputs, of which entries are used up in order, and the refusal
markers (R85, R206, R216). -/
structure Quiet (s t : State) : Prop where
  cfg : t.cfg = s.cfg
  fifo : ∀ f, t.fifo f = s.fifo f
  ctx : ∀ w, t.ctx w = s.ctx w
  boot : t.boot = s.boot
  markers : ∀ m, m.kind ≠ .refusal → (m ∈ t.markers ↔ m ∈ s.markers)
  cmds : t.cmds <:+ s.cmds
  turns : t.turns <:+ s.turns

theorem Quiet.emit (s : State) (e : Event) : Quiet s (s.emit e) where
  cfg := rfl
  fifo := by simp
  ctx := by simp
  boot := rfl
  markers _ _ := Iff.rfl
  cmds := List.suffix_rfl
  turns := List.suffix_rfl

theorem Quiet.popClrOrder (s : State) : Quiet s s.popClrOrder where
  cfg := rfl
  fifo := by simp
  ctx := by simp
  boot := rfl
  markers _ _ := Iff.rfl
  cmds := List.suffix_rfl
  turns := List.suffix_rfl

theorem Quiet.perStep (s : State) (p : PerStep) : Quiet s (s.perStep p) where
  cfg := by simp
  fifo := by simp
  ctx := by simp
  boot := by simp
  markers := by simp
  cmds := by simp
  turns := by simp

theorem Quiet.takeTurn {s : State} {turn : Turn} {rest : List Turn} (h : s.turns = turn :: rest) (n : Nat) :
    Quiet s (s.takeTurn rest n) where
  cfg := rfl
  fifo := by simp
  ctx := by simp
  boot := rfl
  markers _ _ := Iff.rfl
  cmds := List.suffix_rfl
  turns := h ▸ List.suffix_cons turn rest

theorem Quiet.takeCommand {s : State} {w : Word16} {rest : List Word16} (h : s.cmds = w :: rest) :
    Quiet s (s.takeCommand rest) where
  cfg := rfl
  fifo := by simp
  ctx := by simp
  boot := rfl
  markers _ _ := Iff.rfl
  cmds := h ▸ List.suffix_cons w rest
  turns := List.suffix_rfl

/-- A refusal's marker is recorded and nothing else changes (R85, R216). -/
theorem Quiet.mark {m : Marker} (h : m.kind = .refusal) (s : State) : Quiet s (s.mark m) where
  cfg := by simp
  fifo := by simp
  ctx := by simp
  boot := by simp
  markers k hk := by
    have hne : k ≠ m := fun hkm => hk (hkm ▸ h)
    simp [State.mem_markers_mark, hne]
  cmds := by simp
  turns := by simp

theorem Quiet.trans {s t u : State} (h : Quiet s t) (k : Quiet t u) : Quiet s u where
  cfg := k.cfg.trans h.cfg
  fifo f := (k.fifo f).trans (h.fifo f)
  ctx w := (k.ctx w).trans (h.ctx w)
  boot := k.boot.trans h.boot
  markers m hm := (k.markers m hm).trans (h.markers m hm)
  cmds := k.cmds.trans h.cmds
  turns := k.turns.trans h.turns

theorem Quiet.cap {s t : State} (h : Quiet s t) (f : Sel) : t.cap f = s.cap f := congrArg (Cfg.cap · f) h.cfg

theorem State.exclusive_congr {s t : State} (h : ∀ w, t.ctx w = s.ctx w) : t.exclusive ↔ s.exclusive := by
  have ht : t.txi = s.txi := h .txi
  have hr : t.rxi = s.rxi := h .rxi
  have hc : t.call = s.call := h .call
  simp [State.exclusive, State.handlerActive, ht, hr, hc]

/-- The invariant reads the configuration, the FIFOs and the contexts only. -/
theorem State.inv_quiet {s t : State} (hs : s.Inv) (h : Quiet s t) : t.Inv := by
  obtain ⟨hw, hf, hc, hx⟩ := State.inv_iff.1 hs
  exact State.inv_iff.2 ⟨h.cfg ▸ hw, fun f => by rw [h.fifo, h.cap]; exact hf f, fun w => h.ctx w ▸ hc w,
    (State.exclusive_congr h.ctx).2 hx⟩

/-! ### Construction -/

@[simp] theorem bootAct_cfg (s : State) : (bootAct s).cfg = s.cfg := by
  unfold bootAct
  split <;> simp

@[simp] theorem bootAct_ctx (s : State) (w : Who) : (bootAct s).ctx w = s.ctx w := by
  unfold bootAct
  split <;> simp

/-- After `done` construction makes no action (R232). -/
theorem bootAct_of_done {s : State} (h : s.boot = .done) : bootAct s = s := by
  simp [bootAct, h]

theorem State.clearGet_fifo (s : State) (f g : Sel) :
    (s.clearGet f).fifo g = s.fifo g ∨ (s.clearGet f).fifo g = { s.fifo g with get := 0 } := by
  by_cases h : g = f
  · subst h
    exact .inr (State.fifo_setFifo_same _ _ _)
  · exact .inl (State.fifo_setFifo_other _ _ h)

theorem State.clearPut_fifo (s : State) (f g : Sel) :
    (s.clearPut f).fifo g = s.fifo g ∨ (s.clearPut f).fifo g = { s.fifo g with put := 0, cnt := 0 } := by
  by_cases h : g = f
  · subst h
    exact .inr (State.fifo_setFifo_same _ _ _)
  · exact .inl (State.fifo_setFifo_other _ _ h)

/-- An action of construction leaves a FIFO alone or makes one of FCLR's two writes to it (R230). -/
theorem bootAct_fifo (s : State) (f : Sel) :
    (bootAct s).fifo f = s.fifo f ∨ (bootAct s).fifo f = { s.fifo f with get := 0 } ∨
      (bootAct s).fifo f = { s.fifo f with put := 0, cnt := 0 } := by
  unfold bootAct
  cases s.boot
  case k1get => simpa using (State.clearGet_fifo s .tx f).imp_right Or.inl
  case k1put => simpa using (State.clearPut_fifo s .tx f).imp_right Or.inr
  case k2get => simpa using (State.clearGet_fifo s .rx f).imp_right Or.inl
  case k2put => simpa using (State.clearPut_fifo s .rx f).imp_right Or.inr
  all_goals simp

/-- Construction keeps a FIFO in good order (R21, R230). -/
theorem bootAct_fifoOk {s : State} {f : Sel} (h : fifoOk (s.cap f) (s.fifo f)) :
    fifoOk (s.cap f) ((bootAct s).fifo f) := by
  obtain ⟨hget, hput, hstore⟩ := h
  have hpos : 0 < s.cap f := Nat.zero_lt_of_lt hget
  rcases bootAct_fifo s f with hf | hf | hf <;> rw [hf]
  · exact ⟨hget, hput, hstore⟩
  · exact ⟨hpos, hput, hstore⟩
  · exact ⟨hget, hpos, hstore⟩

theorem State.inv_bootAct {s : State} (hs : s.Inv) : (bootAct s).Inv := by
  obtain ⟨hw, hf, hc, hx⟩ := State.inv_iff.1 hs
  refine State.inv_iff.2 ⟨by simpa using hw, fun f => ?_, by simpa using hc, (State.exclusive_congr (by simp)).2 hx⟩
  have hcap : (bootAct s).cap f = s.cap f := by simp [State.cap]
  exact hcap ▸ bootAct_fifoOk (hf f)

/-- What every action of BOOT keeps, a slice of construction keeps. -/
theorem runBoot_keeps {P : State → Prop} (h : ∀ {s}, P s → P (bootAct s)) (n : Nat) :
    ∀ {s : State}, P s → P (runBoot n s) := by
  induction n with
  | zero => exact id
  | succ m ih => exact fun hs => ih (h hs)

end Sys2Proof.Machine
end

section
/-! The induction over a step, packaged once: a property that implies the invariant and that each part of a step keeps is
kept by every step. -/

namespace Sys2Proof.Machine

/-- Taking entries off the inputs brings no command that was not to come. -/
theorem State.neverIssues_of_suffix {p : Instr → Bool} {s t : State} (h : s.neverIssues p = true)
    (hc : t.cmds <:+ s.cmds) (ht : t.turns <:+ s.turns) : t.neverIssues p = true := by
  simp only [State.neverIssues, Bool.and_eq_true, List.all_eq_true] at h ⊢
  exact ⟨fun w hw => h.1 w (hc.subset hw), fun u hu => h.2 u (ht.subset hu)⟩

theorem State.wordAvoids_of_cmds {p : Instr → Bool} {s : State} {w : Word16} {cs : List Word16}
    (h : s.neverIssues p = true) (hc : s.cmds = w :: cs) : wordAvoids p w = true := by
  simp only [State.neverIssues, Bool.and_eq_true, List.all_eq_true] at h
  exact h.1 w (by simp [hc])

theorem State.wordAvoids_of_turns {p : Instr → Bool} {s : State} {w : Word16} {n : Nat} {rest : List Turn}
    (h : s.neverIssues p = true) (ht : s.turns = .handlerCommand w n :: rest) : wordAvoids p w = true := by
  simp only [State.neverIssues, Bool.and_eq_true, List.all_eq_true] at h
  exact h.2 _ (by rw [ht]; exact List.mem_cons_self)

/-- `J` implies the invariant and that no instruction of `p` is to come, and every part of a step keeps it: the quiet parts,
a context's entry, an action of a context that may move, an action of construction. -/
structure KeptByParts (p : Instr → Bool) (J : State → Prop) : Prop where
  inv : ∀ {s}, J s → s.Inv
  avoids : ∀ {s}, J s → s.neverIssues p = true
  quiet : ∀ {s t}, J s → Quiet s t → J t
  enter : ∀ {s w c}, J s → Enters p s w c → J (s.setCtx w c)
  act : ∀ {s t w}, J s → s.mayMove w → act w s = .next t → J t
  boot : ∀ {s}, J s → J (bootAct s)

variable {p : Instr → Bool} {J : State → Prop}

theorem KeptByParts.runTo (h : KeptByParts p J) {stop : Phase} {w : Who} {n : Nat} {s t : State} (hs : J s)
    (hm : s.mayMove w) (e : runTo stop w n s = .next t) : J t := by
  have hact : ∀ u v, J u ∧ u.mayMove w → Machine.act w u = .next v → J v ∧ v.mayMove w := fun u v hu hv =>
    ⟨h.act hu.1 hu.2 hv, (State.mayMove_congr fun _ hx => act_other hx hv).2 hu.2⟩
  exact (runTo_keeps hact n ⟨hs, hm⟩ e).1

/-- A context's entry, its record, and a slice of its actions. -/
theorem KeptByParts.enter_runTo (h : KeptByParts p J) {stop : Phase} {w : Who} {c : Ctx} {n : Nat} {s u t : State}
    (hs : J s) (he : Enters p s w c) (hu : Quiet (s.setCtx w c) u) (e : Machine.runTo stop w n u = .next t) : J t := by
  have hm : (s.setCtx w c).mayMove w :=
    (State.mayMove_congr fun _ hx => State.ctx_setCtx_other s c hx).2 (he.mayMove (State.inv_iff.1 (h.inv hs)).2.2.2)
  exact h.runTo (h.quiet (h.enter hs he) hu) ((State.mayMove_congr fun x _ => hu.ctx x).2 hm) e

/-- A command that `p` does not hold of keeps `J` (R61, R133, R210, R216). -/
theorem KeptByParts.exec (h : KeptByParts p J) {i : Instr} {s t : State} (hs : J s) (hp : p i = false)
    (e : exec i s = .next t) : J t := by
  rcases exec_next e with ⟨-, -, rfl⟩ | ⟨b, -, -, rfl⟩ | ⟨r, -, -, rfl⟩ | ⟨src, -, ha, e⟩ | ⟨-, hr, e⟩ |
    ⟨u, hu, -, -, -, -, -, hw, hi, e⟩
  · exact hs
  · exact h.quiet hs (.mark rfl s)
  · exact h.quiet hs ((Quiet.emit s _).trans (.emit _ _))
  · exact h.enter_runTo hs (.handler src ha) (.emit _ _) e
  · exact h.enter_runTo hs (.resume hr) (.emit _ _) e
  · refine h.enter_runTo hs (.command i hp hi hw) ?_ e
    rcases hu with rfl | ⟨-, rfl⟩
    · exact .emit _ _
    · have hpop : (s.popClrOrder).setCtx s.issuer = fun c => (s.setCtx s.issuer c).popClrOrder := by
        cases s.issuer <;> rfl
      rw [hpop]
      exact (Quiet.popClrOrder _).trans (.emit _ _)

/-- A command word keeps `J` when it decodes to no instruction of `p`: a refused one records its marker only (R85). -/
theorem KeptByParts.issueWord (h : KeptByParts p J) {w : Word16} {s t : State} (hs : J s)
    (hp : wordAvoids p w = true) (e : issueWord w s = .next t) : J t := by
  rcases issueWord_next e with ⟨i, hd, e⟩ | ⟨-, -, rfl⟩
  · exact h.exec hs (by simpa [wordAvoids, hd] using hp) e
  · exact h.quiet hs (.mark rfl s)

theorem KeptByParts.step (h : KeptByParts p J) (hpt : p .txrdy = false) (hpr : p .rxrdy = false) {s t : State}
    (hs : J s) (e : step s = .next t) : J t := by
  obtain ⟨-, ⟨-, rfl⟩ | ⟨turn, rest, hts, e⟩⟩ := step_next e
  · exact hs
  have hx : s.exclusive := (State.inv_iff.1 (h.inv hs)).2.2.2
  have hq : ∀ n, J (s.takeTurn rest n) := fun n => h.quiet hs (.takeTurn hts n)
  have hm : ∀ n w, s.mayMove w → (s.takeTurn rest n).mayMove w := fun n w =>
    (State.mayMove_congr fun u _ => State.ctx_takeTurn s rest n u).2
  rcases e with ⟨n, rfl⟩ | ⟨n, w, cs, -, -, -, -, hc, e⟩ | ⟨n, -, -, -, -, e⟩ | ⟨n, -, -, hi, e⟩ | ⟨n, -, ha, -, e⟩ |
    ⟨src, n, -, -, e⟩ | ⟨w, n, rfl, -, -, e⟩ | ⟨q, -, rfl⟩ | ⟨n, -, -, rfl⟩
  · exact hq n
  · exact h.issueWord (h.quiet (hq n) (.takeCommand hc)) (State.wordAvoids_of_cmds (h.avoids hs) hc) e
  · exact h.runTo (w := .fg) (hq n) trivial e
  · exact h.runTo (hq n) (hm n _ (State.mayMove_activeHandler hx hi)) e
  · exact h.runTo (hq n) (hm n .call ha) e
  · exact h.exec (hq n) (by cases src <;> assumption) e
  · exact h.issueWord (hq n) (State.wordAvoids_of_turns (h.avoids hs) hts) e
  · exact h.quiet (hq 0) (.perStep _ q)
  · exact runBoot_keeps (P := J) h.boot n (hq n)

end Sys2Proof.Machine
end

section
/-! The invariant over a step (R21, R28, R58). -/

namespace Sys2Proof.Machine

theorem State.neverIssues_false (s : State) : s.neverIssues (fun _ => false) = true := by
  have hword : wordAvoids (fun _ => false) = fun _ => true := by
    funext w
    unfold wordAvoids
    split <;> rfl
  have hturn : turnAvoids (fun _ => false) = fun _ => true := by
    funext t
    cases t <;> simp [turnAvoids, hword]
  simp [State.neverIssues, hword, hturn]

theorem inv_keptByParts : KeptByParts (fun _ => false) State.Inv where
  inv := id
  avoids _ := State.neverIssues_false _
  quiet := State.inv_quiet
  enter := State.inv_enter
  act := State.inv_act
  boot := State.inv_bootAct

/-- Settles O18: every part of a step keeps the invariant. -/
theorem stepKeepsTheInvariant : Obligations.StepKeepsTheInvariant := by
  unfold Obligations.StepKeepsTheInvariant
  exact fun _ _ hs e => inv_keptByParts.step rfl rfl hs e

end Sys2Proof.Machine
end

section
/-! The count law over a step (R35): markers stay, a context that is not inside an FCLR does not come into one, and each
change of a FIFO moves the index difference and the true count alike. -/

namespace Sys2Proof.Machine

/-! ### Markers stay -/

theorem State.mem_markers_readSlot {s : State} {m : Marker} (h : m ∈ s.markers) (w : Who) (f : Sel) :
    m ∈ (s.readSlot w f).markers := by
  unfold State.readSlot
  split
  · simpa using h
  · simp [State.mem_markers_mark, h]

theorem State.mem_markers_advancePut {s : State} {m : Marker} (h : m ∈ s.markers) (f : Sel) :
    m ∈ (s.advancePut f).markers := by
  unfold State.advancePut
  split
  · simp [State.mem_markers_mark, h]
  · simpa using h

theorem State.mem_markers_writeData {s : State} {m : Marker} (h : m ∈ s.markers) (a : Agent) (v : Byte) :
    m ∈ (s.writeData a v).markers := by
  unfold State.writeData
  split
  · simpa using h
  · split
    · simpa using h
    · simp [State.mem_markers_mark, h]

@[simp] theorem finishGet_markers (w : Who) (s : State) : (finishGet w s).markers = s.markers := by
  unfold finishGet
  split <;> simp

/-- No action removes a marker (R206). -/
theorem act_mem_markers {w : Who} {s t : State} {m : Marker} (e : act w s = .next t) (h : m ∈ s.markers) :
    m ∈ t.markers := by
  have hadv : ∀ {f : Sel} {k : State → State}, (∀ u, (k u).markers = u.markers) → actAdvance f k s = .next t →
      m ∈ t.markers := by
    intro f k hk ha
    obtain ⟨u, hu, rfl⟩ := actAdvance_next ha
    obtain ⟨-, -, -, -, -, -, -, -, -, -, -, -, hmark⟩ := State.advanceGet_frame hu
    exact hk u ▸ hmark m h
  cases hpc : (s.ctx w).pc <;> simp only [act, hpc] at e
  case s5 => exact hadv (by simp) e
  case d2 => exact hadv (by simp [finishRead]) e
  case g2 => exact hadv (by simp) e
  all_goals obtain rfl := Host.Outcome.next.inj e
  case s4 | d1 | g1 => simpa using State.mem_markers_readSlot h w _
  case s6 | t3 => simpa using State.mem_markers_writeData h _ _
  case p2 => simpa using State.mem_markers_advancePut h _
  case w1 => unfold actW1; split <;> simp [State.mem_markers_mark, h]
  case x2 => simp [actX2, State.mem_markers_mark, h]
  all_goals simp [actW3, actS1, actS2, actS3, actT1, actX1, apply_ite State.markers, h]

/-! ### No FCLR comes in progress -/

/-- A call comes back to no phase of FCLR (R142). -/
theorem clearing_ret {f : Sel} {v : Who} {c : Ctx} (h : ctxLegal v c = true) (hp : comesBack c.pc = true) :
    clearing f { c with pc := c.ret } = false := by
  have hret := ctxLegal_comesBack h hp
  cases v with
  | fg => rcases hret with hr | hr | hr <;> simp [clearing, hr]
  | txi => cases hr : c.ret <;> simp [txiOwn, clearing, hr] at hret ⊢
  | rxi => cases hr : c.ret <;> simp [rxiOwn, clearing, hr] at hret ⊢
  | call => simp [clearing, show c.ret = .idle from hret]

/-- A context in a phase of its own and not inside an FCLR of `f` is not inside one after its action: only FCLR's own
phases lead to FCLR's phases, and they keep the FIFO operand (R61, R104). -/
theorem clearing_act {f : Sel} {v w : Who} {s t : State} (e : act w s = .next t)
    (hl : ctxLegal v (s.ctx w) = true) (h : clearing f (s.ctx w) = false) : clearing f (t.ctx w) = false := by
  have hc := act_ctx e
  cases hpc : (s.ctx w).pc <;> simp only [hpc] at hc
  case idle => exact hc ▸ h
  case s7 | p2 | g2 => exact hc ▸ clearing_ret hl (by rw [hpc]; rfl)
  case s1 | s2 =>
    rcases hc with hc | hc
    · simp [hc, clearing]
    · exact hc ▸ clearing_ret hl (by rw [hpc]; rfl)
  case c1 | c2 =>
    have hsel : (s.ctx w).sel ≠ f := by simpa [clearing, hpc] using h
    simp [hc, clearing, hsel]
  case w1 | w3 | s3 | t1 | x1 => rcases hc with hc | hc <;> simp [hc, clearing]
  all_goals simp [hc, clearing]

/-- A command that is no FCLR of `f` enters no FCLR of `f`. -/
theorem Enters.clearing_eq_false {f : Sel} {s : State} {w : Who} {c : Ctx} (h : Enters (isClearOf f) s w c) :
    clearing f c = false := by
  cases h with
  | handler src => cases src <;> rfl
  | resume => rfl
  | command i hp hi =>
    cases i with
    | fclr g =>
      have hg : g ≠ f := by simpa [isClearOf] using hp
      simp only [entryOf, enterClear]
      split <;> simp [clearing, hg]
    | _ => simp [entryOf, clearing, hi]

/-! ### The law -/

/-- The count law with its two ways out: an overflow or an empty get of `f` is recorded, or the occupancy is the true count
modulo the capacity (R35). -/
def State.countOk (f : Sel) (s : State) : Prop :=
  Marker.fifoOverflow f ∈ s.markers ∨ Marker.emptyGet f ∈ s.markers ∨ s.occ f = (s.fifo f).cnt % s.cap f

/-- Markers stay, so only the law itself is left to show. -/
theorem State.countOk_of_markers {f : Sel} {s t : State} (h : s.countOk f) (hm : ∀ m ∈ s.markers, m ∈ t.markers)
    (hlaw : s.occ f = (s.fifo f).cnt % s.cap f → t.countOk f) : t.countOk f := by
  rcases h with h | h | h
  · exact .inl (hm _ h)
  · exact .inr (.inl (hm _ h))
  · exact hlaw h

/-- The successor of an index in range is congruent to the index plus one (R100). -/
theorem State.inc_modEq {s : State} {f : Sel} {i : Index} (hw : s.cfg.wellFormed = true) (hi : i.toNat < s.cap f) :
    ((inc (s.mode f) (s.cap f) i).toNat : Int) ≡ i.toNat + 1 [ZMOD s.cap f] := by
  rw [State.inc_toNat hw hi]
  push_cast
  exact Int.mod_modEq _ _

/-- An action that is none of an FCLR of `f` keeps the count law (R35): a put adds one to both sides or is an overflow, a
get takes one from both or is an empty get. -/
theorem State.countOk_act {f : Sel} {w : Who} {s t : State} (hs : s.Inv) (e : act w s = .next t)
    (hclear : clearing f (s.ctx w) = false) (h : s.countOk f) : t.countOk f := by
  obtain ⟨hw, hf, -, -⟩ := State.inv_iff.1 hs
  obtain ⟨hget, hput, -, -⟩ := hf f
  have hpos : 0 < s.cap f := Nat.zero_lt_of_lt hget
  have hcap : t.cap f = s.cap f := congrArg (Cfg.cap · f) (act_fixed e).1
  refine State.countOk_of_markers h (fun m => act_mem_markers e) fun hlaw => ?_
  have hdiff := (occOf_eq_mod_iff hpos _ _).1 hlaw
  cases act_fifoChange e f with
  | same hq =>
    refine .inr (.inr ?_)
    rw [State.occ, hcap, hq]
    exact hlaw
  | stored v hq =>
    refine .inr (.inr ?_)
    rw [State.occ, hcap, hq]
    exact hlaw
  | dequeued hq =>
    obtain ⟨hq, hempty, -⟩ := hq
    by_cases h0 : (s.fifo f).cnt = 0
    · exact .inr (.inl (hempty h0))
    · refine .inr (.inr ?_)
      rw [State.occ, hcap, hq, occOf_eq_mod_iff hpos]
      calc ((s.fifo f).put.toNat - (inc (s.mode f) (s.cap f) (s.fifo f).get).toNat : Int)
          ≡ (s.fifo f).put.toNat - ((s.fifo f).get.toNat + 1) [ZMOD s.cap f] := (State.inc_modEq hw hget).sub_left _
        _ = (s.fifo f).put.toNat - (s.fifo f).get.toNat - 1 := by ring
        _ ≡ (s.fifo f).cnt - 1 [ZMOD s.cap f] := hdiff.sub_right 1
        _ = ((s.fifo f).cnt - 1 : Nat) := by omega
  | enqueued hq hfull =>
    by_cases hc : (s.fifo f).cnt = s.cap f
    · exact .inl (hfull hc)
    · refine .inr (.inr ?_)
      rw [State.occ, hcap, hq, if_neg hc, occOf_eq_mod_iff hpos]
      calc ((inc (s.mode f) (s.cap f) (s.fifo f).put).toNat - (s.fifo f).get.toNat : Int)
          ≡ (s.fifo f).put.toNat + 1 - (s.fifo f).get.toNat [ZMOD s.cap f] := (State.inc_modEq hw hput).sub_right _
        _ = (s.fifo f).put.toNat - (s.fifo f).get.toNat + 1 := by ring
        _ ≡ (s.fifo f).cnt + 1 [ZMOD s.cap f] := hdiff.add_right 1
        _ = ((s.fifo f).cnt + 1 : Nat) := by push_cast; rfl
  | clearedGet hc => simp [hclear] at hc
  | clearedPut hc => simp [hclear] at hc

/-- What every step keeps of the count law's state, an overflow or an empty get recorded or not (R35). -/
structure State.CountInv (f : Sel) (s : State) : Prop where
  inv : s.Inv
  boot : s.boot = .done
  avoids : s.neverIssues (isClearOf f) = true
  clearing : ∀ w, clearing f (s.ctx w) = false
  count : s.countOk f

/-- The invariant keeps the handlers out of FCLR's phases (R161, R162). -/
theorem clearing_handler {w : Who} {c : Ctx} (f : Sel) (hw : w = .txi ∨ w = .rxi) (h : ctxLegal w c = true) :
    clearing f c = false := by
  rcases hw with rfl | rfl <;> cases hpc : c.pc <;> simp_all [ctxLegal, txiLegal, rxiLegal, Machine.clearing]

theorem State.countInv_of_countLaw {f : Sel} {s : State} (h : s.CountLaw f) : s.CountInv f := by
  obtain ⟨hinv, hb, hav, hfg, hcall, hlaw⟩ := h
  obtain ⟨-, -, hc, -⟩ := State.inv_iff.1 hinv
  refine ⟨hinv, hb, hav, fun w => ?_, .inr (.inr hlaw)⟩
  cases w with
  | fg => exact hfg
  | txi => exact clearing_handler f (.inl rfl) (hc .txi)
  | rxi => exact clearing_handler f (.inr rfl) (hc .rxi)
  | call => exact hcall

theorem State.CountInv.marker_or_countLaw {f : Sel} {s : State} (h : s.CountInv f) :
    Marker.fifoOverflow f ∈ s.markers ∨ Marker.emptyGet f ∈ s.markers ∨ s.CountLaw f :=
  h.count.imp_right (Or.imp_right fun hlaw => ⟨h.inv, h.boot, h.avoids, h.clearing .fg, h.clearing .call, hlaw⟩)

theorem State.countInv_quiet {f : Sel} {s t : State} (hs : s.CountInv f) (h : Quiet s t) : t.CountInv f where
  inv := State.inv_quiet hs.inv h
  boot := h.boot.trans hs.boot
  avoids := State.neverIssues_of_suffix hs.avoids h.cmds h.turns
  clearing w := h.ctx w ▸ hs.clearing w
  count := by
    have hover := h.markers (.fifoOverflow f) (by cases f <;> decide)
    have hempty := h.markers (.emptyGet f) (by simp [Marker.kind])
    simpa only [State.countOk, State.occ, hover, hempty, h.fifo, h.cap] using hs.count

theorem State.countInv_enter {f : Sel} {s : State} {w : Who} {c : Ctx} (hs : s.CountInv f)
    (h : Enters (isClearOf f) s w c) : (s.setCtx w c).CountInv f where
  inv := State.inv_enter hs.inv h
  boot := by simpa using hs.boot
  avoids := State.neverIssues_of_suffix hs.avoids (by simp) (by simp)
  clearing u := by
    by_cases hu : u = w
    · subst hu
      simpa using h.clearing_eq_false
    · exact State.ctx_setCtx_other s c hu ▸ hs.clearing u
  count := by simpa [State.countOk] using hs.count

theorem State.countInv_act {f : Sel} {s t : State} {w : Who} (hs : s.CountInv f) (hm : s.mayMove w)
    (e : act w s = .next t) : t.CountInv f where
  inv := State.inv_act hs.inv hm e
  boot := by
    obtain ⟨-, hb, -⟩ := act_fixed e
    exact hb.trans hs.boot
  avoids := by
    obtain ⟨-, -, -, hcmds, hturns, -⟩ := act_fixed e
    exact State.neverIssues_of_suffix hs.avoids (hcmds ▸ List.suffix_rfl) (hturns ▸ List.suffix_rfl)
  clearing u := by
    obtain ⟨-, -, hc, -⟩ := State.inv_iff.1 hs.inv
    by_cases hu : u = w
    · exact hu ▸ clearing_act e (hc w) (hs.clearing w)
    · exact act_other hu e ▸ hs.clearing u
  count := State.countOk_act hs.inv e (hs.clearing w) hs.count

theorem countInv_keptByParts (f : Sel) : KeptByParts (isClearOf f) (State.CountInv f) where
  inv := State.CountInv.inv
  avoids := State.CountInv.avoids
  quiet := State.countInv_quiet
  enter := State.countInv_enter
  act := State.countInv_act
  boot hs := (bootAct_of_done hs.boot).symm ▸ hs

/-- Settles O38: the count law, its ways out included, is kept by every part of a step. -/
theorem occupancyIsTheTrueCountModuloCapacity : Obligations.OccupancyIsTheTrueCountModuloCapacity := by
  unfold Obligations.OccupancyIsTheTrueCountModuloCapacity
  intro s t f hs e
  exact ((countInv_keptByParts f).step rfl rfl (State.countInv_of_countLaw hs) e).marker_or_countLaw

end Sys2Proof.Machine
end

section
/-! The state after construction (R37) meets the invariants. -/

namespace Sys2Proof.Machine

theorem State.resetWith_fifo (c : Cfg) (f : Sel) : (State.resetWith c).fifo f = Fifo.reset := by
  cases f <;> rfl

theorem State.resetWith_ctx (c : Cfg) (w : Who) : (State.resetWith c).ctx w = Ctx.reset := by
  cases w <;> rfl

/-- Both occupancies are 0 after construction, whatever the capacities (R37). -/
theorem State.resetWith_occ (c : Cfg) (f : Sel) : (State.resetWith c).occ f = 0 := by
  rw [State.occ, State.resetWith_fifo]
  exact occOf_of_put_eq_get _ rfl

theorem State.resetWith_inv {c : Cfg} (h : c.wellFormed = true) : (State.resetWith c).Inv := by
  have hcap : ∀ f, 0 < (State.resetWith c).cap f := fun f => by
    have hok := (Cfg.wellFormed_fifo h f).1
    simp only [capacityOk, Bool.and_eq_true, decide_eq_true_eq] at hok
    exact hok.1
  refine State.inv_iff.2 ⟨h, fun f => ?_, fun w => ?_, .inl rfl, fun hc => absurd rfl hc⟩
  · rw [State.resetWith_fifo]
    exact ⟨hcap f, hcap f, List.Pairwise.nil, fun e he => absurd he List.not_mem_nil⟩
  · rw [State.resetWith_ctx]
    cases w <;> rfl

theorem State.resetWith_countLaw {c : Cfg} (h : c.wellFormed = true) (f : Sel) : (State.resetWith c).CountLaw f := by
  refine ⟨State.resetWith_inv h, rfl, rfl, rfl, rfl, ?_⟩
  rw [State.resetWith_occ, State.resetWith_fifo]
  exact (Nat.zero_mod _).symm

theorem State.resetWith_txGuard {c : Cfg} (h : c.wellFormed = true) (h8 : 8 ≤ c.capTx) :
    (State.resetWith c).TxGuard := by
  have hidle : ¬((State.resetWith c).fg.pc = .w4 ∨ putting .tx (State.resetWith c).fg = true) := by
    change ¬(Ctx.reset.pc = .w4 ∨ putting .tx Ctx.reset = true)
    decide
  refine ⟨State.resetWith_inv h, h8, rfl, rfl, rfl, rfl, rfl, fun hp => absurd (Or.inr hp) hidle,
    State.resetWith_occ c .tx, Nat.zero_le _, fun hp => absurd hp hidle, List.not_mem_nil⟩

/-- Settles O17: the state after construction meets the invariant, R141's premises and the count law. -/
theorem resetMeetsTheInvariants : Obligations.ResetMeetsTheInvariants := by
  unfold Obligations.ResetMeetsTheInvariants
  exact fun c h => ⟨State.resetWith_inv h, State.resetWith_txGuard h, State.resetWith_countLaw h⟩

/-- Settles O16: the values of R37's table are those of `State.resetWith`, and equal indices are occupancy 0. -/
theorem resetLeavesTheStatedValues : Obligations.ResetLeavesTheStatedValues := by
  unfold Obligations.ResetLeavesTheStatedValues
  intro c
  exact ⟨rfl, rfl, rfl, rfl, rfl, rfl, rfl, rfl, rfl, rfl, rfl, State.resetWith_occ c .tx, State.resetWith_occ c .rx,
    fun _ => ⟨rfl, rfl, rfl, rfl, rfl⟩⟩

end Sys2Proof.Machine
end

section
/-! What no command and no step changes (R33, R232), and who writes the flag (R29). -/

namespace Sys2Proof.Machine

/-- The configuration, construction and the schedule are the same in two states. -/
structure Fixed (s t : State) : Prop where
  cfg : t.cfg = s.cfg
  boot : t.boot = s.boot
  cmds : t.cmds = s.cmds
  turns : t.turns = s.turns
  grant : t.grant = s.grant

theorem runTo_fixed {stop : Phase} {w : Who} {n : Nat} {s u t : State} (h : Fixed s u)
    (e : runTo stop w n u = .next t) : Fixed s t := by
  refine runTo_keeps (P := Fixed s) (fun x y hx hy => ?_) n h e
  obtain ⟨hcfg, hboot, -, hcmds, hturns, hgrant⟩ := act_fixed hy
  exact ⟨hcfg.trans hx.cfg, hboot.trans hx.boot, hcmds.trans hx.cmds, hturns.trans hx.turns, hgrant.trans hx.grant⟩

/-- No command changes the configuration, construction or the inputs that schedule the machine (R33, R232). -/
theorem exec_fixed {i : Instr} {s t : State} (e : exec i s = .next t) : Fixed s t := by
  rcases exec_next e with ⟨-, -, rfl⟩ | ⟨b, -, -, rfl⟩ | ⟨r, -, -, rfl⟩ | ⟨src, -, -, e⟩ | ⟨-, -, e⟩ |
    ⟨u, hu, -, -, -, -, -, -, -, e⟩
  · exact ⟨rfl, rfl, rfl, rfl, rfl⟩
  · exact ⟨by simp, by simp, by simp, by simp, by simp⟩
  · exact ⟨rfl, rfl, rfl, rfl, rfl⟩
  · exact runTo_fixed ⟨by simp, by simp, by simp, by simp, by simp⟩ e
  · exact runTo_fixed ⟨by simp, by simp, by simp, by simp, by simp⟩ e
  · rcases hu with rfl | ⟨-, rfl⟩ <;> exact runTo_fixed ⟨by simp, by simp, by simp, by simp, by simp⟩ e

theorem issueWord_fixed {w : Word16} {s t : State} (e : issueWord w s = .next t) : Fixed s t := by
  rcases issueWord_next e with ⟨i, -, e⟩ | ⟨-, -, rfl⟩
  · exact exec_fixed e
  · exact ⟨by simp, by simp, by simp, by simp, by simp⟩

/-- Construction leaves the configuration, and once done makes no action more (R33, R232). -/
theorem runBoot_cfg_boot (n : Nat) (s : State) :
    (runBoot n s).cfg = s.cfg ∧ (s.boot = .done → (runBoot n s).boot = .done) := by
  refine runBoot_keeps (P := fun u => u.cfg = s.cfg ∧ (s.boot = .done → u.boot = .done)) (fun {u} hu => ?_) n
    ⟨rfl, id⟩
  exact ⟨(bootAct_cfg u).trans hu.1, fun hs => (bootAct_of_done (hu.2 hs)).symm ▸ hu.2 hs⟩

/-- Settles O19: commands and slices leave both fields, and construction's turn makes no action once it is done. -/
theorem configurationAndConstructionAreFixed : Obligations.ConfigurationAndConstructionAreFixed := by
  unfold Obligations.ConfigurationAndConstructionAreFixed
  intro s t e
  have key : ∀ {u : State}, Fixed u t → u.cfg = s.cfg → u.boot = s.boot →
      t.cfg = s.cfg ∧ (s.boot = .done → t.boot = .done) := fun h hc hb =>
    ⟨h.cfg.trans hc, fun hd => (h.boot.trans hb).trans hd⟩
  obtain ⟨-, ⟨-, rfl⟩ | ⟨turn, rest, -, e⟩⟩ := step_next e
  · exact ⟨rfl, id⟩
  have hself : ∀ n, Fixed (s.takeTurn rest n) (s.takeTurn rest n) := fun _ => ⟨rfl, rfl, rfl, rfl, rfl⟩
  rcases e with ⟨n, rfl⟩ | ⟨n, w, cs, -, -, -, -, -, e⟩ | ⟨n, -, -, -, -, e⟩ | ⟨n, -, -, -, e⟩ | ⟨n, -, -, -, e⟩ |
    ⟨src, n, -, -, e⟩ | ⟨w, n, -, -, -, e⟩ | ⟨q, -, rfl⟩ | ⟨n, -, -, rfl⟩
  · exact ⟨rfl, id⟩
  · exact key (issueWord_fixed e) rfl rfl
  · exact key (runTo_fixed (hself n) e) rfl rfl
  · exact key (runTo_fixed (hself n) e) rfl rfl
  · exact key (runTo_fixed (hself n) e) rfl rfl
  · exact key (exec_fixed e) rfl rfl
  · exact key (issueWord_fixed e) rfl rfl
  · exact ⟨by simp, fun hd => by simpa using hd⟩
  · exact runBoot_cfg_boot n (s.takeTurn rest n)

/-- The flag after an action of construction: K3 sets it, no other writes it (R230). -/
theorem bootAct_stalled (s : State) : (bootAct s).stalled = match s.boot with
    | .k3 => true
    | _ => s.stalled := by
  unfold bootAct
  cases s.boot <;> simp

/-- Settles O22: the flag after an action is given by its phase, in a running context and in construction. -/
theorem flagIsWrittenOnlyAtS7AndT4 : Obligations.FlagIsWrittenOnlyAtS7AndT4 := by
  unfold Obligations.FlagIsWrittenOnlyAtS7AndT4
  refine ⟨fun w s t e hne => ?_, fun s hne => ?_, fun s p => State.perStep_stalled s p⟩
  · have hst := act_stalled e
    split at hst
    next hpc => exact .inl ⟨hpc, hst⟩
    next hpc => exact .inr ⟨hpc, hst⟩
    next => exact absurd hst hne
  · have hst := bootAct_stalled s
    split at hst
    next hb => exact ⟨hb, hst⟩
    next => exact absurd hst hne

end Sys2Proof.Machine
end

section
/-! The frames of FCLR, FPUT and FGET (R24, R51): the phases of a container operation, what an action in one of them leaves
alone, and what a slice of them leaves alone. -/

namespace Sys2Proof.Machine

/-- A context inside the container operation `i` on `f`, in one of the operation's own two phases, or come to its end
(R104 to R106). -/
inductive InContainer : Instr → Sel → Ctx → Prop
  | done {i : Instr} {f : Sel} {c : Ctx} (hpc : c.pc = .idle) : InContainer i f c
  | c1 {f : Sel} {c : Ctx} (hpc : c.pc = .c1) (hsel : c.sel = f) (hret : c.ret = .c2 ∨ c.ret = .idle) :
      InContainer (.fclr f) f c
  | c2 {f : Sel} {c : Ctx} (hpc : c.pc = .c2) (hsel : c.sel = f) (hret : c.ret = .c1 ∨ c.ret = .idle) :
      InContainer (.fclr f) f c
  | p1 {f : Sel} {v : Byte} {c : Ctx} (hpc : c.pc = .p1) (hsel : c.sel = f) (hret : c.ret = .idle) :
      InContainer (.fput f v) f c
  | p2 {f : Sel} {v : Byte} {c : Ctx} (hpc : c.pc = .p2) (hsel : c.sel = f) (hret : c.ret = .idle) :
      InContainer (.fput f v) f c
  | g1 {f : Sel} {c : Ctx} (hpc : c.pc = .g1) (hsel : c.sel = f) (hret : c.ret = .idle) : InContainer (.fget f) f c
  | g2 {f : Sel} {c : Ctx} (hpc : c.pc = .g2) (hsel : c.sel = f) (hret : c.ret = .idle) : InContainer (.fget f) f c

/-- FCLR, FPUT and FGET on `f`. -/
def isContainerOp (f : Sel) (i : Instr) : Prop := i = .fclr f ∨ (∃ v, i = .fput f v) ∨ i = .fget f

/-- A container operation is entered in one of its own phases, on its own FIFO (R61). -/
theorem inContainer_entryOf {f : Sel} {i : Instr} (hi : isContainerOp f i) (s : State) (c : Ctx) :
    InContainer i f (entryOf i s c) := by
  rcases hi with rfl | ⟨v, rfl⟩ | rfl
  · simp only [entryOf, enterClear]
    split
    · exact .c2 rfl rfl (.inl rfl)
    · exact .c1 rfl rfl (.inl rfl)
  · exact .p1 rfl rfl rfl
  · exact .g1 rfl rfl rfl

/-- An action keeps a container operation in its own phases, or ends it. -/
theorem InContainer.act {i : Instr} {f : Sel} {w : Who} {s t : State} (h : InContainer i f (s.ctx w))
    (e : act w s = .next t) : InContainer i f (t.ctx w) := by
  have hc := act_ctx e
  cases h with
  | done hpc =>
    simp only [hpc] at hc
    exact .done (hc ▸ hpc)
  | c1 hpc hsel hret =>
    simp only [hpc] at hc
    rcases hret with hr | hr
    · exact .c2 (by rw [hc, hr]) (by rw [hc]; exact hsel) (by rw [hc]; exact .inr rfl)
    · exact .done (by rw [hc, hr])
  | c2 hpc hsel hret =>
    simp only [hpc] at hc
    rcases hret with hr | hr
    · exact .c1 (by rw [hc, hr]) (by rw [hc]; exact hsel) (by rw [hc]; exact .inr rfl)
    · exact .done (by rw [hc, hr])
  | p1 hpc hsel hret =>
    simp only [hpc] at hc
    exact .p2 (by rw [hc]) (by rw [hc]; exact hsel) (by rw [hc]; exact hret)
  | g1 hpc hsel hret =>
    simp only [hpc] at hc
    exact .g2 (by rw [hc]) (by rw [hc]; exact hsel) (by rw [hc]; exact hret)
  | p2 hpc hsel hret | g2 hpc hsel hret =>
    simp only [hpc] at hc
    exact .done (by rw [hc, hret])

/-- What a container operation on `f` in context `w` leaves alone, whichever it is: the other FIFO, the flag, the peripheral
and its answers, the other contexts (R24, R50, R210). -/
structure ContainerKept (f : Sel) (w : Who) (s t : State) : Prop where
  fifo : ∀ g, g ≠ f → t.fifo g = s.fifo g
  stalled : t.stalled = s.stalled
  per : t.per = s.per
  oracle : t.oracle = s.oracle
  rxiSw : t.rxiSw = s.rxiSw
  ctx : ∀ u, u ≠ w → t.ctx u = s.ctx u

theorem ContainerKept.trans {f : Sel} {w : Who} {s t u : State} (h : ContainerKept f w s t)
    (k : ContainerKept f w t u) : ContainerKept f w s u where
  fifo g hg := (k.fifo g hg).trans (h.fifo g hg)
  stalled := k.stalled.trans h.stalled
  per := k.per.trans h.per
  oracle := k.oracle.trans h.oracle
  rxiSw := k.rxiSw.trans h.rxiSw
  ctx v hv := (k.ctx v hv).trans (h.ctx v hv)

/-- The phases of FCLR and FPUT, and `IDLE`: FGET's G1 alone can draw a free value (R56; log 4). -/
theorem act_container_draws {i : Instr} {f : Sel} {w : Who} {s t : State} (h : InContainer i f (s.ctx w))
    (hi : i ≠ .fget f) (e : act w s = .next t) : t.draws = s.draws := by
  cases h with
  | done hpc | c1 hpc | c2 hpc | p1 hpc | p2 hpc =>
    simp only [act, hpc] at e
    cases e
    simp
  | g1 | g2 => exact absurd rfl hi

theorem finishGet_frame (w : Who) (s : State) :
    (finishGet w s).per = s.per ∧ (finishGet w s).oracle = s.oracle ∧ (finishGet w s).rxiSw = s.rxiSw := by
  unfold finishGet
  split <;> simp

theorem act_container_kept {i : Instr} {f : Sel} {w : Who} {s t : State} (h : InContainer i f (s.ctx w))
    (e : act w s = .next t) : ContainerKept f w s t := by
  have hst := act_stalled e
  have hf := act_fifo e
  have hctx : ∀ u, u ≠ w → t.ctx u = s.ctx u := fun u hu => act_other hu e
  cases h with
  | done hpc =>
    simp only [act, hpc] at e
    cases e
    exact ⟨fun _ _ => rfl, rfl, rfl, rfl, rfl, fun _ _ => rfl⟩
  | c1 hpc hsel | c2 hpc hsel | p1 hpc hsel =>
    simp only [hpc, hsel] at hst hf
    simp only [act, hpc] at e
    cases e
    exact ⟨hf.2, hst, by simp, by simp, by simp, hctx⟩
  | p2 hpc hsel =>
    simp only [hpc, hsel] at hst hf
    simp only [act, hpc] at e
    cases e
    exact ⟨hf.2.2, hst, by simp, by simp, by simp, hctx⟩
  | g1 hpc =>
    simp only [hpc] at hst hf
    simp only [act, hpc] at e
    cases e
    exact ⟨fun g _ => hf g, hst, by simp, by simp, by simp, hctx⟩
  | g2 hpc hsel =>
    simp only [hpc, hsel] at hst hf
    simp only [act, hpc] at e
    obtain ⟨u, hu, rfl⟩ := actAdvance_next e
    obtain ⟨-, -, hsw, -, hper, hor, -⟩ := State.advanceGet_frame hu
    obtain ⟨hper', hor', hsw'⟩ := finishGet_frame w u
    exact ⟨hf.2.2, hst, hper'.trans hper, hor'.trans hor, hsw'.trans hsw, hctx⟩

/-! ### What each operation leaves of its own FIFO -/

/-- FCLR leaves storage and the draws (R104). -/
structure FclrKept (f : Sel) (s t : State) : Prop where
  store : (t.fifo f).store = (s.fifo f).store
  draws : t.draws = s.draws

/-- FPUT leaves get, the draws, and every slot but the one at put (R51, R105). -/
structure FputKept (f : Sel) (s t : State) : Prop where
  get : (t.fifo f).get = (s.fifo f).get
  draws : t.draws = s.draws
  slots : ∀ a, a ≠ (s.fifo f).put.toNat → memRead (t.fifo f).store a = memRead (s.fifo f).store a

/-- FGET leaves put and storage (R106). -/
structure FgetKept (f : Sel) (s t : State) : Prop where
  put : (t.fifo f).put = (s.fifo f).put
  store : (t.fifo f).store = (s.fifo f).store

variable {f : Sel} {w : Who} {n : Nat} {s t : State}

theorem runCtx_container_kept {i : Instr} (h : InContainer i f (s.ctx w)) (e : runCtx w n s = .next t) :
    ContainerKept f w s t := by
  have hact : ∀ u v, InContainer i f (u.ctx w) ∧ ContainerKept f w s u → act w u = .next v →
      InContainer i f (v.ctx w) ∧ ContainerKept f w s v := fun u v hu hv =>
    ⟨hu.1.act hv, hu.2.trans (act_container_kept hu.1 hv)⟩
  exact (runCtx_keeps hact n ⟨h, ⟨fun _ _ => rfl, rfl, rfl, rfl, rfl, fun _ _ => rfl⟩⟩ e).2

theorem runCtx_fclr (h : InContainer (.fclr f) f (s.ctx w)) (e : runCtx w n s = .next t) : FclrKept f s t := by
  have hact : ∀ u v, InContainer (.fclr f) f (u.ctx w) ∧ FclrKept f s u → act w u = .next v →
      InContainer (.fclr f) f (v.ctx w) ∧ FclrKept f s v := by
    rintro u v ⟨hin, hstore, hdraws⟩ hv
    refine ⟨hin.act hv, ?_, (act_container_draws hin (by simp) hv).trans hdraws⟩
    have hf := act_fifo hv
    cases hin with
    | done hpc =>
      simp only [hpc] at hf
      rw [hf f, hstore]
    | c1 hpc hsel | c2 hpc hsel =>
      simp only [hpc, hsel] at hf
      rw [hf.1, hstore]
  exact (runCtx_keeps hact n ⟨h, rfl, rfl⟩ e).2

/-- Until P2 the put index is the one of the issue, so P1 stores into the slot it names. -/
theorem runCtx_fput {x : Byte} (h : InContainer (.fput f x) f (s.ctx w)) (e : runCtx w n s = .next t) :
    FputKept f s t := by
  have hact : ∀ u v, (InContainer (.fput f x) f (u.ctx w) ∧ FputKept f s u ∧
        ((u.ctx w).pc = .p1 → (u.fifo f).put = (s.fifo f).put)) → act w u = .next v →
      InContainer (.fput f x) f (v.ctx w) ∧ FputKept f s v ∧
        ((v.ctx w).pc = .p1 → (v.fifo f).put = (s.fifo f).put) := by
    rintro u v ⟨hin, ⟨hget, hdraws, hslots⟩, hput⟩ hv
    refine ⟨hin.act hv, ?_⟩
    have hd := (act_container_draws hin (by simp) hv).trans hdraws
    have hf := act_fifo hv
    have hc := act_ctx hv
    cases hin with
    | done hpc =>
      simp only [hpc] at hc
      exact hc ▸ ⟨⟨hget, hdraws, hslots⟩, hput⟩
    | p1 hpc hsel =>
      simp only [hpc, hsel] at hf hc
      refine ⟨⟨by rw [hf.1, hget], hd, fun a ha => ?_⟩, fun hp => by simp [hc] at hp⟩
      rw [hf.1, hput hpc, memRead_memWrite_other _ _ ha]
      exact hslots a ha
    | p2 hpc hsel hret =>
      simp only [hpc, hsel] at hf hc
      exact ⟨⟨by rw [hf.1, hget], hd, fun a ha => by rw [hf.1]; exact hslots a ha⟩, fun hp => by simp [hc, hret] at hp⟩
  exact (runCtx_keeps hact n ⟨h, ⟨rfl, rfl, fun _ _ => rfl⟩, fun _ => rfl⟩ e).2.1

theorem runCtx_fget (h : InContainer (.fget f) f (s.ctx w)) (e : runCtx w n s = .next t) : FgetKept f s t := by
  have hact : ∀ u v, InContainer (.fget f) f (u.ctx w) ∧ FgetKept f s u → act w u = .next v →
      InContainer (.fget f) f (v.ctx w) ∧ FgetKept f s v := by
    rintro u v ⟨hin, hput, hstore⟩ hv
    refine ⟨hin.act hv, ?_⟩
    have hf := act_fifo hv
    cases hin with
    | done hpc | g1 hpc =>
      simp only [hpc] at hf
      exact ⟨by rw [hf f, hput], by rw [hf f, hstore]⟩
    | g2 hpc hsel =>
      simp only [hpc, hsel] at hf
      exact ⟨by rw [hf.1, hput], by rw [hf.1, hstore]⟩
  exact (runCtx_keeps hact n ⟨h, rfl, rfl⟩ e).2

theorem runCtx_clrOrder (e : runCtx w n s = .next t) : t.clrOrder = s.clrOrder := by
  refine runCtx_keeps (P := fun u => u.clrOrder = s.clrOrder) (fun u v hu hv => ?_) n rfl e
  obtain ⟨-, -, hclr, -⟩ := act_fixed hv
  exact hclr.trans hu

/-! ### The command -/

/-- `u` is the state right after the container operation `i` was issued in `s`: its context inside the operation, and nothing
else of the frame changed (R61); only FCLR uses up an order (R104; log 9). -/
structure ContainerIssued (i : Instr) (f : Sel) (s u : State) : Prop where
  inside : InContainer i f (u.ctx s.issuer)
  kept : ContainerKept f s.issuer s u
  fifo : u.fifo f = s.fifo f
  draws : u.draws = s.draws
  clrOrder : i ≠ .fclr f → u.clrOrder = s.clrOrder

theorem containerIssued_setCtx {i : Instr} {c : Ctx} (hc : InContainer i f c) (s : State) (ev : Event) :
    ContainerIssued i f s ((s.setCtx s.issuer c).emit ev) where
  inside := by simpa using hc
  kept :=
    { fifo := by simp
      stalled := by simp
      per := by simp
      oracle := by simp
      rxiSw := by simp
      ctx := fun u hu => by simpa using State.ctx_setCtx_other s c hu }
  fifo := by simp
  draws := by simp
  clrOrder _ := by simp

/-- FCLR's issue, with its order used up. -/
theorem containerIssued_popClrOrder {u : State} (h : ContainerIssued (.fclr f) f s.popClrOrder u) :
    ContainerIssued (.fclr f) f s u where
  inside := by simpa using h.inside
  kept :=
    { fifo := fun g hg => by simpa using h.kept.fifo g hg
      stalled := by simpa using h.kept.stalled
      per := by simpa using h.kept.per
      oracle := by simpa using h.kept.oracle
      rxiSw := by simpa using h.kept.rxiSw
      ctx := fun v hv => by simpa using h.kept.ctx v (by simpa using hv) }
  fifo := by simpa using h.fifo
  draws := by simpa using h.draws
  clrOrder hne := absurd rfl hne

/-- A container operation answers a next state by a slice of its own phases from the state of its issue. -/
theorem exec_container_next {i : Instr} (hi : isContainerOp f i) (e : exec i s = .next t) :
    ∃ u, ContainerIssued i f s u ∧ runCtx s.issuer s.grant u = .next t := by
  have hin := fun c => inContainer_entryOf hi s c
  rcases hi with rfl | ⟨v, rfl⟩ | rfl
  · have hrun := (issue_next (enter := entryOf (.fclr f) s) (s := s.popClrOrder) e).2
    exact ⟨_, containerIssued_popClrOrder (containerIssued_setCtx (hin _) _ _), by simpa using hrun⟩
  · exact ⟨_, containerIssued_setCtx (hin _) s _, (issue_next (enter := entryOf (.fput f v) s) e).2⟩
  · exact ⟨_, containerIssued_setCtx (hin _) s _, (issue_next (enter := entryOf (.fget f) s) e).2⟩

/-- No command is issued in a handler's own context but RESUME (log 5). -/
theorem State.issuer_eq (s : State) : s.issuer = .fg ∨ s.issuer = .call := by
  unfold State.issuer
  split <;> simp

end Sys2Proof.Machine
end

section
/-! The frame of the container's commands (R24, R51). -/

namespace Sys2Proof.Machine

/-- Settles O34: the slice's frame, and what each operation leaves of its own FIFO. -/
theorem containerFrame : Obligations.ContainerFrame := by
  unfold Obligations.ContainerFrame
  intro s t f i hi e
  have hfix := exec_fixed e
  obtain ⟨u, hu, hrun⟩ := exec_container_next hi e
  have hk := hu.kept.trans (runCtx_container_kept hu.inside hrun)
  have hne : .txi ≠ s.issuer ∧ .rxi ≠ s.issuer := by rcases s.issuer_eq with hw | hw <;> simp [hw]
  refine ⟨hk.fifo, hk.stalled, hk.per, hk.oracle, hk.ctx .txi hne.1, hk.ctx .rxi hne.2, hk.rxiSw, hfix.cfg, hfix.boot,
    hfix.cmds, hfix.turns, hfix.grant, fun hw => hk.ctx .call (by simp [hw]), fun hw => hk.ctx .fg (by simp [hw]),
    ?_, ?_, ?_, fun hn => (runCtx_clrOrder hrun).trans (hu.clrOrder hn)⟩
  · rintro rfl
    obtain ⟨hstore, hd⟩ := runCtx_fclr hu.inside hrun
    exact ⟨by rw [hstore, hu.fifo], hd.trans hu.draws⟩
  · rintro v rfl
    obtain ⟨hget, hd, hslots⟩ := runCtx_fput hu.inside hrun
    exact ⟨by rw [hget, hu.fifo], hd.trans hu.draws, hu.fifo ▸ hslots⟩
  · rintro rfl
    obtain ⟨hput, hstore⟩ := runCtx_fget hu.inside hrun
    exact ⟨by rw [hput, hu.fifo], by rw [hstore, hu.fifo]⟩

end Sys2Proof.Machine
end

section
/-! A slice of atomic actions taken apart (R54, R57; log 1): sequencing is associative, so a slice ends at any action and
goes on from there. -/

namespace Sys2Proof.Machine

theorem andThen_assoc (r : Result) (k l : State → Result) :
    andThen (andThen r k) l = andThen r fun s => andThen (k s) l := by
  cases r <;> rfl

/-- A slice of `m + n` actions is a slice of `m` and then one of `n`; a context at the stop makes no action in either. -/
theorem runTo_add (stop : Phase) (w : Who) (m n : Nat) (s : State) :
    runTo stop w (m + n) s = andThen (runTo stop w m s) (runTo stop w n) := by
  induction m generalizing s with
  | zero => simp
  | succ m ih =>
    by_cases h : (s.ctx w).pc = stop
    · rw [runTo_stop h, runTo_stop h, andThen_next, runTo_stop h]
    · rw [Nat.succ_add, runTo_succ, runTo_succ, if_neg h, if_neg h, andThen_assoc]
      exact congrArg (andThen (act w s)) (funext ih)

/-- Settles O12: by induction on the first slice. -/
theorem sliceIsASequenceOfActions : Obligations.SliceIsASequenceOfActions := runTo_add

end Sys2Proof.Machine
end

section
/-! Turns and entry points met while a handler is active (R58 a, R211). -/

namespace Sys2Proof.Machine

/-- Handlers do not nest (R211; log 5). -/
theorem startHandler_of_handlerActive {s : State} (h : s.handlerActive = true) (src : IrqSource) (i : Instr) :
    startHandler src i s = .next s := by
  simp [startHandler, h]

theorem foregroundTurn_of_handlerActive {s : State} (h : s.handlerActive = true) (n : Nat) :
    foregroundTurn n s = .next s := by
  simp [foregroundTurn, h]

theorem bootTurn_of_handlerActive {s : State} (h : s.handlerActive = true) (n : Nat) : bootTurn n s = .next s := by
  simp [bootTurn, h]

theorem interruptTurn_of_handlerActive {s : State} (h : s.handlerActive = true) (src : IrqSource) :
    interruptTurn src s = .next s := by
  simp [interruptTurn, State.startable, h]

/-- Settles O11: each of the three turns leaves the state without its schedule entry as it is. -/
theorem nothingButTheHandlerStepsWhileOneIsActive : Obligations.NothingButTheHandlerStepsWhileOneIsActive := by
  unfold Obligations.NothingButTheHandlerStepsWhileOneIsActive
  intro s h
  refine ⟨⟨startHandler_of_handlerActive h _ _, startHandler_of_handlerActive h _ _⟩, fun turn n rest hw ht hturn => ?_⟩
  have hact : (s.takeTurn rest n).handlerActive = true := by simpa using h
  rw [step_of_turns_cons hw ht]
  rcases hturn with rfl | rfl | ⟨src, rfl⟩
  · exact foregroundTurn_of_handlerActive hact n
  · exact bootTurn_of_handlerActive hact n
  · exact interruptTurn_of_handlerActive hact src

end Sys2Proof.Machine
end

section
/-! Slices read forward: a slice takes an action, and the two actions of a get (R54, R106, R133, R134, R161). -/

namespace Sys2Proof.Machine

variable {stop : Phase} {w : Who} {s : State}

/-- A context not at the stop makes its action, and the rest of the slice goes on from there. -/
theorem runTo_of_act {t : State} (hs : (s.ctx w).pc ≠ stop) (e : act w s = .next t) (n : Nat) :
    runTo stop w (n + 1) s = runTo stop w n t := by
  rw [runTo_succ, if_neg hs, e, andThen_next]

theorem actAdvance_of_next {f : Sel} {k : State → State} {u : State} (h : s.advanceGet f = .next u) :
    actAdvance f k s = .next (k u) := by
  rw [actAdvance, h, andThen_next]

/-- With an element to take, or under the policy `stale`, the dequeue's second action has a next state (R111). -/
theorem State.exists_advanceGet {f : Sel} (h : (s.fifo f).cnt = 0 → s.cfg.emptyGet = .stale) :
    ∃ u, s.advanceGet f = .next u := by
  unfold State.advanceGet
  split
  next h0 => exact ⟨_, by rw [h h0]⟩
  next => exact ⟨_, rfl⟩

/-! ### Recording agents (R35) -/

@[simp] theorem State.agentOf_fg (s : State) : s.agentOf .fg = .fg := rfl
@[simp] theorem State.agentOf_txi (s : State) : s.agentOf .txi = .txi := rfl

/-- A context's own moves do not change whose name its actions are recorded under. -/
@[simp] theorem State.agentOf_setCtx_same (s : State) (w : Who) (c : Ctx) : (s.setCtx w c).agentOf w = s.agentOf w := by
  cases w <;> rfl

@[simp] theorem State.goto_agentOf (s : State) (w : Who) (p : Phase) : (s.goto w p).agentOf w = s.agentOf w :=
  s.agentOf_setCtx_same w _

@[simp] theorem State.goto_goto (s : State) (w : Who) (p q : Phase) : (s.goto w p).goto w q = s.goto w q := by
  simp [State.goto]

@[simp] theorem State.goto_txEmptyAnswer (s : State) (w : Who) (p : Phase) :
    (s.goto w p).txEmptyAnswer = s.txEmptyAnswer := by
  simp [State.txEmptyAnswer]

/-! ### The surface's calls -/

/-- A data write is recorded whatever the peripheral makes of it (R35, R184, R191). -/
@[simp] theorem State.writeData_trace (s : State) (a : Agent) (v : Byte) :
    (s.writeData a v).trace = s.trace ++ [.called a (.writeDataRegister v)] := by
  unfold State.writeData
  split
  · rfl
  · split <;> simp [State.logCall]

/-- A poll draws a free value exactly when the oracle has no answer listed (R190 a; log 4). -/
theorem State.pollTxEmpty_draws (s : State) (a : Agent) :
    (s.pollTxEmpty a).draws = if s.cfg.env = .oracle ∧ s.oracle.txEmpty = [] then s.draws + 1 else s.draws := by
  unfold State.pollTxEmpty
  split
  next henv => simp [henv, State.logCall]
  next henv => split <;> simp [*, State.logCall]

@[simp] theorem State.goto_pollTxEmpty_draws (s : State) (w : Who) (p : Phase) (a : Agent) :
    ((s.goto w p).pollTxEmpty a).draws = (s.pollTxEmpty a).draws := by
  simp [State.pollTxEmpty_draws]

/-! ### The two actions of a get -/

/-- What a get on an unwritten slot of `f` by context `w` leaves when it goes on at phase `p` (R56, R106; log 4). -/
structure FreeValueTaken (f : Sel) (w : Who) (p : Phase) (s t : State) : Prop where
  ctx : t.ctx w = { s.ctx w with pc := p, v := Config.freeByte s.draws }
  dequeued : Dequeued f s t
  draws : t.draws = s.draws + 1
  marker : Marker.unwrittenSlot f (s.fifo f).get.toNat ∈ t.markers
  trace : t.trace = s.trace
  agentOf : t.agentOf w = s.agentOf w

theorem State.readSlot_of_unwritten {f : Sel} (hm : memRead (s.fifo f).store (s.fifo f).get.toNat = none) (w : Who) :
    s.readSlot w f = ((s.setCtx w { s.ctx w with v := Config.freeByte s.draws }).bumpDraws).mark
      (.unwrittenSlot f (s.fifo f).get.toNat) := by
  simp [State.readSlot, Fifo.getSlot, hm]

theorem State.agentOf_congr {t : State} (h : ∀ u, t.ctx u = s.ctx u) (w : Who) : t.agentOf w = s.agentOf w := by
  have htxi : t.txi = s.txi := h .txi
  cases w <;> simp [State.agentOf, htxi]

theorem freeValueTaken_of_advanceGet {f : Sel} {p : Phase} {u : State}
    (hm : memRead (s.fifo f).store (s.fifo f).get.toNat = none)
    (e : ((s.readSlot w f).goto w p).advanceGet f = .next u) : FreeValueTaken f w p s u := by
  rw [State.readSlot_of_unwritten hm] at e
  obtain ⟨-, -, -, -, -, -, hdraws, -, htrace, -, -, -, hmarkers⟩ := State.advanceGet_frame e
  exact
    { ctx := by simpa using State.advanceGet_ctx e w
      dequeued := by simpa [Dequeued, State.mode] using State.advanceGet_dequeued e
      draws := by simpa using hdraws
      marker := hmarkers _ (by simp [State.mem_markers_mark])
      trace := by simpa using htrace
      agentOf := by simpa using State.agentOf_congr (State.advanceGet_ctx e) w }

/-- The policy and the true count a get's second action looks at are those before its first (R111). -/
theorem State.exists_get {f : Sel} (h : (s.fifo f).cnt = 0 → s.cfg.emptyGet = .stale) (w : Who) (p : Phase) :
    ∃ u, ((s.readSlot w f).goto w p).advanceGet f = .next u := by
  apply State.exists_advanceGet
  simpa using h

/-- The phases of RESUME (R133). -/
def resumePhases : List Phase := [.s1, .s2, .s3, .s4, .s5, .s6, .s7]

/-- RESUME from S1 with everything there for a kick: the poll, the get and the data write, with the flag cleared last, and
back to the phase it was called from (R133). -/
theorem runTo_kick {u : State} (hstop : stop ∉ resumePhases) (hpc : (s.ctx w).pc = .s1) (hst : s.stalled = true)
    (hocc : 0 < s.occ .tx) (hans : s.txEmptyAnswer = true)
    (hu : (((((s.goto w .s3).pollTxEmpty (s.agentOf w)).goto w .s4).readSlot w .tx).goto w .s5).advanceGet .tx = .next u)
    (n : Nat) :
    runTo stop w (n + 7) s = runTo stop w n
      (((((u.goto w .s6).writeData (u.agentOf w) (u.ctx w).v).goto w .s7).setStalled false).ret w) := by
  have hne : ∀ p ∈ resumePhases, p ≠ stop := fun p hp h => hstop (h ▸ hp)
  simp only [resumePhases, List.forall_mem_cons] at hne
  obtain ⟨h1, h2, h3, h4, h5, h6, h7, -⟩ := hne
  rw [runTo_of_act (t := s.goto w .s2) (by simpa [hpc]) (by simp [act, hpc, actS1, hst]),
    runTo_of_act (t := s.goto w .s3) (by simpa) (by simp [act, actS2, hocc]),
    runTo_of_act (t := ((s.goto w .s3).pollTxEmpty (s.agentOf w)).goto w .s4) (by simpa) (by simp [act, actS3, hans]),
    runTo_of_act (t := ((((s.goto w .s3).pollTxEmpty (s.agentOf w)).goto w .s4).readSlot w .tx).goto w .s5) (by simpa)
      (by simp [act]),
    runTo_of_act (t := u.goto w .s6) (by simpa) (by simp [act, actAdvance_of_next hu]),
    runTo_of_act (t := ((u.goto w .s6).writeData (u.agentOf w) (u.ctx w).v).goto w .s7) (by simpa) (by simp [act]),
    runTo_of_act (by simpa) (by simp only [act, State.goto_ctx]; rfl)]

/-- TXRDY from T1 with data, to its end: the get, the data write, the acknowledgement (R161). -/
theorem runCtx_sendQueued {u : State} (hpc : (s.ctx w).pc = .t1) (hocc : 0 < s.occ .tx)
    (hu : (((s.callGet w .tx .t3).readSlot w .tx).goto w .g2).advanceGet .tx = .next u) (n : Nat) :
    runCtx w (n + 6) s = .next
      (((((u.goto w .t3).writeData (u.agentOf w) (u.ctx w).v).goto w .t5).acknowledgeTransmit (u.agentOf w)).leaveHandler
        w) := by
  have hcall : (s.goto w .t2).callGet w .tx .t3 = s.callGet w .tx .t3 := by simp [State.callGet, State.goto]
  have hctx := State.advanceGet_ctx hu w
  have hfin : finishGet w u = u.goto w .t3 := by simp [finishGet, State.ret, hctx]
  unfold runCtx
  rw [runTo_of_act (t := s.goto w .t2) (by simp [hpc]) (by simp [act, hpc, actT1, hocc]),
    runTo_of_act (t := s.callGet w .tx .t3) (by simp) (by simp [act, hcall]),
    runTo_of_act (t := ((s.callGet w .tx .t3).readSlot w .tx).goto w .g2) (by simp) (by simp [act]),
    runTo_of_act (t := u.goto w .t3) (by simp) (by simp [act, actAdvance_of_next hu, hfin]),
    runTo_of_act (t := ((u.goto w .t3).writeData (u.agentOf w) (u.ctx w).v).goto w .t5) (by simp) (by simp [act]),
    runTo_of_act (by simp) (by simp only [act, State.goto_ctx]; rfl)]
  rw [runTo_stop (by simp)]
  simp

/-- FGET from G1, to its end: the element goes to the caller (R106). -/
theorem runCtx_fgetToEnd {f : Sel} {u : State} (hpc : (s.ctx w).pc = .g1) (hsel : (s.ctx w).sel = f)
    (hret : (s.ctx w).ret = .idle) (hu : ((s.readSlot w f).goto w .g2).advanceGet f = .next u) (n : Nat) :
    runCtx w (n + 2) s = .next ((u.emit (.returned (u.agentOf w) (elementResponse (u.ctx w).v))).goto w .idle) := by
  have hctx := State.advanceGet_ctx hu w
  have hfin : finishGet w u = (u.emit (.returned (u.agentOf w) (elementResponse (u.ctx w).v))).goto w .idle := by
    simp [finishGet, State.ret, hctx, hret]
  unfold runCtx
  rw [runTo_of_act (t := (s.readSlot w f).goto w .g2) (by simp [hpc]) (by simp [act, hpc, hsel]),
    runTo_of_act (t := (u.emit (.returned (u.agentOf w) (elementResponse (u.ctx w).v))).goto w .idle) (by simp)
      (by simp [act, hsel, actAdvance_of_next hu, hfin]),
    runTo_stop (by simp)]

/-- READ from D1, to its end: the element goes to the caller (R134). -/
theorem runCtx_readToEnd {u : State} (hpc : (s.ctx w).pc = .d1)
    (hu : ((s.readSlot w .rx).goto w .d2).advanceGet .rx = .next u) (n : Nat) :
    runCtx w (n + 2) s = .next ((u.emit (.returned (u.agentOf w) (elementResponse (u.ctx w).v))).goto w .idle) := by
  unfold runCtx
  rw [runTo_of_act (t := (s.readSlot w .rx).goto w .d2) (by simp [hpc]) (by simp [act, hpc]),
    runTo_of_act (t := finishRead w u) (by simp) (by simp [act, actAdvance_of_next hu])]
  exact runTo_stop (by simp [finishRead]) n

end Sys2Proof.Machine
end

section
/-! A command of the foreground at rest, and an entry point met at rest, as slices from the state of their issue
(R61, R133, R210). -/

namespace Sys2Proof.Machine

variable {s : State}

theorem State.issuer_of_ready (h : s.ready = true) : s.issuer = .fg := by
  simp [State.issuer, (State.ready_iff.mp h).1]

theorem issue_of_ready (h : s.ready = true) (i : Instr) (enter : Ctx → Ctx) :
    issue i enter s = runCtx .fg s.grant ((s.setCtx .fg (enter s.fg)).emit (.issued .fg i)) := by
  simp [issue, State.issuer_of_ready h, (State.ready_iff.mp h).2]

theorem startResume_of_ready (h : s.ready = true) :
    startResume s = runCtx .fg s.grant ((s.callResume .fg .idle).emit (.issued .fg .resume)) := by
  obtain ⟨hact, hpc⟩ := State.ready_iff.mp h
  simp [startResume, State.canResume, State.resumer, runCtx, hact, hpc]

theorem startHandler_of_noHandler (h : s.handlerActive = false) (src : IrqSource) (i : Instr) :
    startHandler src i s = runCtx (handlerOf src) s.grant (s.enterHandler src i) := by
  simp [startHandler, h]

theorem exec_fget_of_ready (h : s.ready = true) (f : Sel) :
    exec (.fget f) s = runCtx .fg s.grant
      ((s.setCtx .fg { s.fg with pc := .g1, sel := f, ret := .idle }).emit (.issued .fg (.fget f))) :=
  issue_of_ready h (.fget f) fun c => { c with pc := .g1, sel := f, ret := .idle }

theorem exec_read_of_ready (h : s.ready = true) :
    exec .read s = runCtx .fg s.grant ((s.setCtx .fg { s.fg with pc := .d1 }).emit (.issued .fg .read)) :=
  issue_of_ready h .read fun c => { c with pc := .d1 }

theorem exec_resume_of_ready (h : s.ready = true) :
    exec .resume s = runCtx .fg s.grant ((s.callResume .fg .idle).emit (.issued .fg .resume)) :=
  startResume_of_ready h

theorem exec_txrdy_of_noHandler (h : s.handlerActive = false) :
    exec .txrdy s = runCtx .txi s.grant (s.enterHandler .transmit .txrdy) :=
  startHandler_of_noHandler h _ _

end Sys2Proof.Machine
end

section
/-! A get on an unwritten slot, in each of the four commands that make one (R56; log 4). -/

namespace Sys2Proof.Machine

theorem exists_freeValueTaken {s : State} {f : Sel} (hp : s.cfg.emptyGet = .stale)
    (hm : memRead (s.fifo f).store (s.fifo f).get.toNat = none) (w : Who) (p : Phase) :
    ∃ u, ((s.readSlot w f).goto w p).advanceGet f = .next u ∧ FreeValueTaken f w p s u := by
  obtain ⟨u, hu⟩ := State.exists_get (f := f) (fun _ => hp) w p
  exact ⟨u, hu, freeValueTaken_of_advanceGet hm hu⟩

/-- What a command with a get on an unwritten slot of `f` leaves, the free value drawn after `d` draws (R56, R106). -/
structure UnwrittenGot (f : Sel) (d : Nat) (s t : State) : Prop where
  draws : t.draws = d + 1
  get : (t.fifo f).get = inc (s.mode f) (s.cap f) (s.fifo f).get
  put : (t.fifo f).put = (s.fifo f).put
  store : (t.fifo f).store = (s.fifo f).store
  marker : Marker.unwrittenSlot f (s.fifo f).get.toNat ∈ t.markers

/-- What comes before the get and after it leaves the FIFO, the draws and the marker alone. -/
theorem FreeValueTaken.unwrittenGot {f : Sel} {w : Who} {p : Phase} {s u v t : State} (h : FreeValueTaken f w p u v)
    (hcfg : u.cfg = s.cfg) (hu : u.fifo f = s.fifo f) (ht : t.fifo f = v.fifo f) (hd : t.draws = v.draws)
    (hm : ∀ m ∈ v.markers, m ∈ t.markers) : UnwrittenGot f u.draws s t := by
  have hf := h.dequeued.1
  simp only [State.mode, State.cap, hcfg, hu] at hf
  exact ⟨hd.trans h.draws, by rw [ht, hf]; rfl, by rw [ht, hf], by rw [ht, hf], hm _ (hu ▸ h.marker)⟩

variable {s : State} {f : Sel}

/-- The end of FGET and READ, issued in the foreground: the free value goes to the caller (R84, R106, R134). -/
theorem FreeValueTaken.returned {p : Phase} {c : Ctx} {i : Instr} {u : State}
    (h : FreeValueTaken f .fg p ((s.setCtx .fg c).emit (.issued .fg i)) u) :
    UnwrittenGot f s.draws s ((u.emit (.returned (u.agentOf .fg) (elementResponse (u.ctx .fg).v))).goto .fg .idle) ∧
      ((u.emit (.returned (u.agentOf .fg) (elementResponse (u.ctx .fg).v))).goto .fg .idle).trace =
        s.trace ++ [.issued .fg i, .returned .fg ((Config.freeByte s.draws).setWidth 16)] := by
  have hv : u.fg.v = Config.freeByte s.draws := by simpa using congrArg Ctx.v h.ctx
  exact ⟨h.unwrittenGot (by simp) (by simp) (by simp) (by simp) (by simp), by simp [h.trace, hv, elementResponse]⟩

theorem exec_fget_of_unwritten (hr : s.ready = true) (hg : 2 ≤ s.grant) (hp : s.cfg.emptyGet = .stale)
    (hm : memRead (s.fifo f).store (s.fifo f).get.toNat = none) :
    ∃ t, exec (.fget f) s = .next t ∧ UnwrittenGot f s.draws s t ∧
      t.trace = s.trace ++ [.issued .fg (.fget f), .returned .fg ((Config.freeByte s.draws).setWidth 16)] := by
  obtain ⟨n, hn⟩ := Nat.exists_eq_add_of_le' hg
  obtain ⟨u, hu, h⟩ := exists_freeValueTaken (f := f)
    (s := (s.setCtx .fg { s.fg with pc := .g1, sel := f, ret := .idle }).emit (.issued .fg (.fget f)))
    (by simpa using hp) (by simpa using hm) .fg .g2
  rw [exec_fget_of_ready hr, hn, runCtx_fgetToEnd (f := f) rfl rfl rfl hu]
  exact ⟨_, rfl, h.returned⟩

theorem exec_read_of_unwritten (hr : s.ready = true) (hg : 2 ≤ s.grant) (hp : s.cfg.emptyGet = .stale)
    (hm : memRead s.rx.store s.rx.get.toNat = none) :
    ∃ t, exec .read s = .next t ∧ UnwrittenGot .rx s.draws s t ∧
      t.trace = s.trace ++ [.issued .fg .read, .returned .fg ((Config.freeByte s.draws).setWidth 16)] := by
  obtain ⟨n, hn⟩ := Nat.exists_eq_add_of_le' hg
  obtain ⟨u, hu, h⟩ := exists_freeValueTaken (f := .rx)
    (s := (s.setCtx .fg { s.fg with pc := .d1 }).emit (.issued .fg .read))
    (by simpa using hp) (by simpa using hm) .fg .d2
  rw [exec_read_of_ready hr, hn, runCtx_readToEnd rfl hu]
  exact ⟨_, rfl, h.returned⟩

theorem exec_txrdy_of_unwritten (hact : s.handlerActive = false) (hg : 6 ≤ s.grant) (hp : s.cfg.emptyGet = .stale)
    (hm : memRead s.tx.store s.tx.get.toNat = none) (hocc : 0 < s.occ .tx) :
    ∃ t, exec .txrdy s = .next t ∧ UnwrittenGot .tx s.draws s t ∧
      t.trace = s.trace ++ [.issued .txi .txrdy, .called .txi (.writeDataRegister (Config.freeByte s.draws)),
        .called .txi .acknowledgeTransmitInterrupt] := by
  obtain ⟨n, hn⟩ := Nat.exists_eq_add_of_le' hg
  obtain ⟨u, hu, h⟩ := exists_freeValueTaken (f := .tx) (s := (s.enterHandler .transmit .txrdy).callGet .txi .tx .t3)
    (by simpa using hp) (by simpa using hm) .txi .g2
  have hv : u.txi.v = Config.freeByte s.draws := by simpa using congrArg Ctx.v h.ctx
  rw [exec_txrdy_of_noHandler hact, hn, runCtx_sendQueued rfl (by simpa using hocc) hu]
  refine ⟨_, rfl, h.unwrittenGot (by simp) (by simp) (by simp) (by simp) ?_, ?_⟩
  · exact fun m hmk => by simpa using State.mem_markers_writeData (by simpa using hmk) _ _
  · simp [h.trace, hv, State.enterHandler, State.acknowledgeTransmit, State.logCall, handlerOf]

/-- RESUME's kick in any context, wherever the slice ends: the poll may have used up a draw before (R133, R190 a). -/
theorem runTo_kick_of_unwritten {stop : Phase} {w : Who} (hstop : stop ∉ resumePhases) (hpc : (s.ctx w).pc = .s1)
    (hst : s.stalled = true) (hocc : 0 < s.occ .tx) (hans : s.txEmptyAnswer = true) (hp : s.cfg.emptyGet = .stale)
    (hm : memRead s.tx.store s.tx.get.toNat = none) (n : Nat) :
    ∃ t, runTo stop w (n + 7) s = runTo stop w n t ∧ (t.ctx w).pc = (s.ctx w).ret ∧
      UnwrittenGot .tx (s.pollTxEmpty (s.agentOf w)).draws s t ∧ t.stalled = false ∧
      t.trace = s.trace ++ [.called (s.agentOf w) (.isTransmitRegisterEmpty true),
        .called (s.agentOf w) (.writeDataRegister (Config.freeByte (s.pollTxEmpty (s.agentOf w)).draws))] := by
  obtain ⟨u, hu, h⟩ := exists_freeValueTaken (f := .tx)
    (s := ((s.goto w .s3).pollTxEmpty (s.agentOf w)).goto w .s4) (by simpa using hp) (by simpa using hm) w .s5
  have hd : (((s.goto w .s3).pollTxEmpty (s.agentOf w)).goto w .s4).draws = (s.pollTxEmpty (s.agentOf w)).draws := by simp
  have hagent : u.agentOf w = s.agentOf w := by simpa using h.agentOf
  refine ⟨_, runTo_kick hstop hpc hst hocc hans hu n, by simp [h.ctx],
    hd ▸ h.unwrittenGot (by simp) (by simp) (by simp) (by simp) ?_, by simp, ?_⟩
  · exact fun m hmk => by simpa using State.mem_markers_writeData (by simpa using hmk) _ _
  · simp [h.trace, h.ctx, hagent, hans]

theorem exec_resume_of_unwritten (hr : s.ready = true) (hg : 7 ≤ s.grant) (hp : s.cfg.emptyGet = .stale)
    (hm : memRead s.tx.store s.tx.get.toNat = none) (hocc : 0 < s.occ .tx) (hst : s.stalled = true)
    (hans : s.txEmptyAnswer = true) :
    ∃ t, exec .resume s = .next t ∧ UnwrittenGot .tx (s.pollTxEmpty .fg).draws s t ∧ t.stalled = false ∧
      t.trace = s.trace ++ [.issued .fg .resume, .called .fg (.isTransmitRegisterEmpty true),
        .called .fg (.writeDataRegister (Config.freeByte (s.pollTxEmpty .fg).draws))] := by
  obtain ⟨n, hn⟩ := Nat.exists_eq_add_of_le' hg
  obtain ⟨t, e, hpc, ⟨hdraws, hget, hput, hstore, hmarker⟩, hflag, htrace⟩ :=
    runTo_kick_of_unwritten (s := (s.callResume .fg .idle).emit (.issued .fg .resume)) (stop := .idle) (w := .fg)
      (by decide) rfl (by simpa using hst) (by simpa using hocc) (by simpa [State.txEmptyAnswer] using hans)
      (by simpa using hp) (by simpa using hm) n
  simp only [State.pollTxEmpty_draws] at hdraws htrace ⊢
  rw [exec_resume_of_ready hr, hn, runCtx, e, runTo_stop (by simpa [State.callResume] using hpc)]
  exact ⟨t, rfl, ⟨by simpa using hdraws, by simpa [State.mode] using hget, by simpa using hput, by simpa using hstore,
    by simpa using hmarker⟩, hflag, by simpa using htrace⟩

/-- Settles O32: command by command. -/
theorem unwrittenSlotReadsAsAFreeValue : Obligations.UnwrittenSlotReadsAsAFreeValue := by
  unfold Obligations.UnwrittenSlotReadsAsAFreeValue
  intro s f hr hg hp hm
  refine ⟨?_, ?_, ?_, ?_⟩
  · obtain ⟨t, e, ⟨hdraws, hget, hput, hstore, hmarker⟩, htrace⟩ := exec_fget_of_unwritten hr hg hp hm
    exact ⟨t, e, hdraws, hget, hput, hstore, hmarker, htrace⟩
  · rintro rfl
    obtain ⟨t, e, ⟨hdraws, hget, hput, hstore, hmarker⟩, htrace⟩ := exec_read_of_unwritten hr hg hp hm
    exact ⟨t, e, hdraws, hget, hput, hstore, hmarker, htrace⟩
  · rintro rfl hg6 hocc
    obtain ⟨t, e, ⟨hdraws, hget, hput, hstore, hmarker⟩, htrace⟩ :=
      exec_txrdy_of_unwritten (State.ready_iff.mp hr).1 hg6 hp hm hocc
    exact ⟨t, e, hdraws, hget, hput, hstore, hmarker, htrace⟩
  · rintro rfl hg7 hocc hst hans
    obtain ⟨t, e, ⟨hdraws, hget, hput, hstore, hmarker⟩, hflag, htrace⟩ :=
      exec_resume_of_unwritten hr hg7 hp hm hocc hst hans
    rw [State.pollTxEmpty_draws] at hdraws htrace
    exact ⟨t, e, hdraws, hget, hput, hstore, hflag, hmarker, htrace⟩

end Sys2Proof.Machine
end

section
/-! The four fields of a command word, `op`, `sel`, `000` and `data` (R81): a word is its fields, what the encoder puts into
each, and the operands read back from them. -/

namespace Sys2Proof

/-- A command word is its four fields, from bit 15 down (R81). -/
theorem word_eq_append_fields (w : Word16) :
    w = w.extractLsb' 12 4 ++ w.extractLsb' 11 1 ++ w.extractLsb' 8 3 ++ w.extractLsb' 0 8 := by
  rw [BitVec.extractLsb'_append_extractLsb'_eq_extractLsb' (by rfl),
    BitVec.extractLsb'_append_extractLsb'_eq_extractLsb' (by rfl),
    BitVec.extractLsb'_append_extractLsb'_eq_extractLsb' (by rfl), BitVec.extractLsb'_eq_self]

theorem word_eq_iff_fields {v w : Word16} :
    v = w ↔ v.extractLsb' 12 4 = w.extractLsb' 12 4 ∧ v.extractLsb' 11 1 = w.extractLsb' 11 1 ∧
      v.extractLsb' 8 3 = w.extractLsb' 8 3 ∧ v.extractLsb' 0 8 = w.extractLsb' 0 8 := by
  constructor
  · rintro rfl
    exact ⟨rfl, rfl, rfl, rfl⟩
  · rintro ⟨hop, hsel, hzero, hdata⟩
    rw [word_eq_append_fields v, word_eq_append_fields w, hop, hsel, hzero, hdata]

@[simp] theorem encode_opField (i : Instr) : (encode i).extractLsb' 12 4 = opNumber i := by
  rw [encode, BitVec.extractLsb'_append_eq_of_le (by decide), BitVec.extractLsb'_append_eq_of_le (by decide)]
  exact BitVec.extractLsb'_append_eq_left

@[simp] theorem encode_selField (i : Instr) : (encode i).extractLsb' 11 1 = selField i := by
  rw [encode, BitVec.extractLsb'_append_eq_of_le (by decide), BitVec.extractLsb'_append_eq_of_le (by decide)]
  exact BitVec.extractLsb'_append_eq_right

@[simp] theorem encode_zeroField (i : Instr) : (encode i).extractLsb' 8 3 = 0#3 := by
  rw [encode, BitVec.extractLsb'_append_eq_of_le (by decide)]
  exact BitVec.extractLsb'_append_eq_right

@[simp] theorem encode_dataField (i : Instr) : (encode i).extractLsb' 0 8 = dataField i :=
  BitVec.extractLsb'_append_eq_right

/-- The `sel` field is bit 11 alone (R81). -/
theorem selBits_eq_ofBool (w : Word16) : w.extractLsb' 11 1 = BitVec.ofBool (w.getLsbD 11) := by
  ext k hk
  obtain rfl : k = 0 := by omega
  simp

@[simp] theorem selBit_selOf (w : Word16) : selBit (selOf w) = w.extractLsb' 11 1 := by
  rw [selBits_eq_ofBool, selOf]
  cases w.getLsbD 11 <;> rfl

theorem selBit_injective : Function.Injective selBit := by
  intro f g h
  cases f <;> cases g <;> simp_all [selBit]

/-- The `sel` operand of an instruction that has one is read back from its word (R81, R90). -/
theorem selOf_encode {i : Instr} {f : Sel} (h : selField i = selBit f) : selOf (encode i) = f :=
  selBit_injective (by rw [selBit_selOf, encode_selField, h])

@[simp] theorem dataOf_encode (i : Instr) : dataOf (encode i) = dataField i := encode_dataField i

/-- The grounds for an illegal word (R85), by field. -/
theorem wordWellFormed_iff_fields {w : Word16} :
    wordWellFormed w = true ↔ opAssigned w = true ∧ w.extractLsb' 8 3 = 0#3 ∧
      ((w.extractLsb' 12 4).getLsbD 3 = true → w.extractLsb' 11 1 = 0#1) ∧
      (w.extractLsb' 12 4 ≠ 0x1#4 → w.extractLsb' 12 4 ≠ 0x8#4 → w.extractLsb' 0 8 = 0#8) := by
  have hport : selClearOnPort w = true ↔ ((w.extractLsb' 12 4).getLsbD 3 = true → w.extractLsb' 11 1 = 0#1) := by
    rw [selBits_eq_ofBool, selClearOnPort]
    cases w.getLsbD 11 <;> simp
  have hdata : dataClearWhenUnused w = true ↔
      (w.extractLsb' 12 4 ≠ 0x1#4 → w.extractLsb' 12 4 ≠ 0x8#4 → w.extractLsb' 0 8 = 0#8) := by
    simp only [dataClearWhenUnused, Bool.or_eq_true, beq_iff_eq]
    tauto
  simp [wordWellFormed, hport, hdata, zeroFieldClear, and_assoc]

end Sys2Proof
end

section
/-! The rows of the opcode map (R83): a row selects exactly the words its instruction is encoded as, no word is selected by
two rows, and every legal word is selected. -/

namespace Sys2Proof

/-- The row test, by field. -/
theorem OpRow.selects_iff_fields {r : OpRow} {w : Word16} :
    r.selects w = true ↔
      w.extractLsb' 12 4 &&& r.mask.extractLsb' 12 4 = r.value.extractLsb' 12 4 ∧
      w.extractLsb' 11 1 &&& r.mask.extractLsb' 11 1 = r.value.extractLsb' 11 1 ∧
      w.extractLsb' 8 3 &&& r.mask.extractLsb' 8 3 = r.value.extractLsb' 8 3 ∧
      w.extractLsb' 0 8 &&& r.mask.extractLsb' 0 8 = r.value.extractLsb' 0 8 := by
  simp only [OpRow.selects, beq_iff_eq, word_eq_iff_fields, BitVec.extractLsb'_and]

/-- A row selects exactly the words its instruction is encoded as (R83, R90): in each field the row's mask is full, and the
field stands in the value, or empty, and the field is an operand. -/
theorem selects_iff_eq_encode {r : OpRow} (hr : r ∈ opRows) {w : Word16} :
    r.selects w = true ↔ w = encode (r.op.instr w) := by
  have hop (x : BitVec 4) : x &&& 15#4 = x := BitVec.and_allOnes
  have hsel (x : BitVec 1) : x &&& 1#1 = x := BitVec.and_allOnes
  have hzero (x : BitVec 3) : x &&& 7#3 = x := BitVec.and_allOnes
  have hdata (x : BitVec 8) : x &&& 255#8 = x := BitVec.and_allOnes
  rw [OpRow.selects_iff_fields, word_eq_iff_fields]
  simp only [encode_opField, encode_selField, encode_zeroField, encode_dataField]
  simp only [opRows, List.mem_cons, List.not_mem_nil, or_false] at hr
  rcases hr with rfl | rfl | rfl | rfl | rfl | rfl | rfl | rfl | rfl | rfl | rfl
  all_goals simp [Op.instr, opNumber, selField, dataField, dataOf, hop, hsel, hzero, hdata]

/-- The operation number of a row's instruction is the one in the row's value (R83). -/
theorem opNumber_instr {r : OpRow} (hr : r ∈ opRows) (w : Word16) :
    opNumber (r.op.instr w) = r.value.extractLsb' 12 4 := by
  have hoperands : opNumber (r.op.instr w) = opNumber (r.op.instr 0) := by cases r.op <;> rfl
  have hrow : ∀ q ∈ opRows, opNumber (q.op.instr 0) = q.value.extractLsb' 12 4 := by decide
  exact hoperands.trans (hrow r hr)

/-- A selected word has the row's operation number (R83). -/
theorem opField_of_selects {r : OpRow} {w : Word16} (hr : r ∈ opRows) (h : r.selects w = true) :
    w.extractLsb' 12 4 = r.value.extractLsb' 12 4 := by
  calc w.extractLsb' 12 4 = (encode (r.op.instr w)).extractLsb' 12 4 :=
        congrArg (BitVec.extractLsb' 12 4) ((selects_iff_eq_encode hr).mp h)
    _ = opNumber (r.op.instr w) := encode_opField _
    _ = r.value.extractLsb' 12 4 := opNumber_instr hr w

/-- No two rows have one operation number (R83). -/
theorem row_eq_of_opField_eq : ∀ r ∈ opRows, ∀ q ∈ opRows,
    r.value.extractLsb' 12 4 = q.value.extractLsb' 12 4 → r = q := by decide

/-- Settles O4: the two rows have the word's operation number, and no two rows share one. -/
theorem opcodeRowsAreDisjoint : Obligations.OpcodeRowsAreDisjoint := by
  unfold Obligations.OpcodeRowsAreDisjoint
  intro w r q hr hq hrw hqw
  exact row_eq_of_opField_eq r hr q hq ((opField_of_selects hr hrw).symm.trans (opField_of_selects hq hqw))

/-- Each assigned operation number is that of a row's instruction (R83). -/
theorem exists_row_of_opAssigned {w : Word16} (h : opAssigned w = true) :
    ∃ r ∈ opRows, opNumber (r.op.instr w) = w.extractLsb' 12 4 := by
  have hrow : ∀ x : BitVec 4, [0x0, 0x1, 0x2, 0x3, 0x4, 0x8, 0x9, 0xA, 0xB, 0xC, 0xD].contains x.toNat = true →
      ∃ r ∈ opRows, r.value.extractLsb' 12 4 = x := by decide
  obtain ⟨r, hr, hval⟩ := hrow _ h
  exact ⟨r, hr, (opNumber_instr hr w).trans hval⟩

/-- A port-class operation has no `sel` operand, a container operation takes its own from the word (R81). -/
theorem selField_instr (o : Op) (w : Word16) :
    selField (o.instr w) = if (opNumber (o.instr w)).getLsbD 3 then 0#1 else w.extractLsb' 11 1 := by
  cases o <;> simp [Op.instr, selField, opNumber]

/-- FPUT and WRITE take their `data` operand from the word, no other operation has one (R81). -/
theorem dataField_instr (o : Op) (w : Word16) :
    dataField (o.instr w) =
      if opNumber (o.instr w) = 0x1#4 ∨ opNumber (o.instr w) = 0x8#4 then w.extractLsb' 0 8 else 0#8 := by
  cases o <;> simp [Op.instr, dataField, opNumber, dataOf]

/-- A legal word is selected by the row of its operation number: its fields that are no operand of the row are zero (R85). -/
theorem exists_row_of_wordWellFormed {w : Word16} (h : wordWellFormed w = true) :
    ∃ r ∈ opRows, r.selects w = true := by
  obtain ⟨hassigned, hzero, hsel, hdata⟩ := wordWellFormed_iff_fields.mp h
  obtain ⟨r, hr, hop⟩ := exists_row_of_opAssigned hassigned
  refine ⟨r, hr, (selects_iff_eq_encode hr).mpr (word_eq_iff_fields.mpr ?_)⟩
  rw [encode_opField, encode_selField, encode_zeroField, encode_dataField, selField_instr, dataField_instr, hop]
  refine ⟨rfl, ?_, hzero, ?_⟩
  · split
    case isTrue hport => exact hsel hport
    case isFalse => rfl
  · split
    case isTrue => rfl
    case isFalse hunused =>
      obtain ⟨hfput, hwrite⟩ := not_or.mp hunused
      exact hdata hfput hwrite

end Sys2Proof
end

section
/-! The decoder (R90): what it answers, and that it and the encoder are inverses of each other. -/

namespace Sys2Proof

/-- The decoder finds the one row that selects the word (R90). -/
theorem decode_of_selects {r : OpRow} {w : Word16} (hr : r ∈ opRows) (h : r.selects w = true) :
    decode w = .ok (r.op.instr w) := by
  cases hfind : opRows.find? (fun q => q.selects w) with
  | none => exact absurd h (List.find?_eq_none.mp hfind r hr)
  | some q =>
    obtain rfl : q = r :=
      opcodeRowsAreDisjoint w q r (List.mem_of_find?_eq_some hfind) hr (by simpa using List.find?_some hfind) h
    simp [decode, hfind]

/-- The decoder accepts a word by a row that selects it. -/
theorem exists_row_of_decode_ok {w : Word16} {i : Instr} (h : decode w = .ok i) :
    ∃ r ∈ opRows, r.selects w = true ∧ r.op.instr w = i := by
  unfold decode at h
  split at h
  case h_1 r hfind =>
    cases h
    exact ⟨r, List.mem_of_find?_eq_some hfind, by simpa using List.find?_some hfind, rfl⟩
  case h_2 => cases h

/-- The operation of an instruction, without its operands. -/
def Instr.op (i : Instr) : Op :=
  match i with
  | .fclr _ => .fclr
  | .fput _ _ => .fput
  | .fget _ => .fget
  | .flen _ => .flen
  | .fsiz _ => .fsiz
  | .write _ => .write
  | .resume => .resume
  | .txrdy => .txrdy
  | .rxrdy => .rxrdy
  | .read => .read
  | .avail => .avail

/-- Every operation has a row (R83). -/
theorem exists_row_of_op (o : Op) : ∃ r ∈ opRows, r.op = o := by
  cases o <;> simp [opRows]

/-- The operands of an instruction are read back from its word (R82, R90). -/
theorem op_instr_encode (i : Instr) : i.op.instr (encode i) = i := by
  cases i with
  | fclr f => exact congrArg Instr.fclr (selOf_encode rfl)
  | fput f v => exact congrArg₂ Instr.fput (selOf_encode rfl) (dataOf_encode _)
  | fget f => exact congrArg Instr.fget (selOf_encode rfl)
  | flen f => exact congrArg Instr.flen (selOf_encode rfl)
  | fsiz f => exact congrArg Instr.fsiz (selOf_encode rfl)
  | write b => exact congrArg Instr.write (dataOf_encode _)
  | resume | txrdy | rxrdy | read | avail => rfl

/-- Settles O1: the instruction's row selects its word, for the operands read back from the word are the instruction's. -/
theorem decodeAfterEncodeIsIdentity : Obligations.DecodeAfterEncodeIsIdentity := by
  unfold Obligations.DecodeAfterEncodeIsIdentity
  intro i _
  obtain ⟨r, hr, hop⟩ := exists_row_of_op i.op
  have hinstr : r.op.instr (encode i) = i := hop ▸ op_instr_encode i
  calc decode (encode i) = .ok (r.op.instr (encode i)) :=
        decode_of_selects hr ((selects_iff_eq_encode hr).mpr (congrArg encode hinstr).symm)
    _ = .ok i := by rw [hinstr]

/-- Settles O2: a row selects only words its instruction is encoded as. -/
theorem encodeAfterDecodeIsIdentity : Obligations.EncodeAfterDecodeIsIdentity := by
  unfold Obligations.EncodeAfterDecodeIsIdentity
  intro w i h
  obtain ⟨r, hr, hsel, rfl⟩ := exists_row_of_decode_ok h
  exact ((selects_iff_eq_encode hr).mp hsel).symm

/-- Every instruction's command word is legal (R85, R90). -/
theorem wordWellFormed_encode (i : Instr) : wordWellFormed (encode i) = true := by
  cases i with
  | fclr f => exact Laws.LegalWord.fclr f
  | fput f v => exact Laws.LegalWord.fput f v
  | fget f => exact Laws.LegalWord.fget f
  | flen f => exact Laws.LegalWord.flen f
  | fsiz f => exact Laws.LegalWord.fsiz f
  | write b => exact Laws.LegalWord.write b
  | resume => exact Laws.LegalWord.resume
  | txrdy => exact Laws.LegalWord.txrdy
  | rxrdy => exact Laws.LegalWord.rxrdy
  | read => exact Laws.LegalWord.read
  | avail => exact Laws.LegalWord.avail

/-- Settles O3: an accepted word is the encoding of its instruction, which is legal, and a legal word is selected by a row. -/
theorem decodableWordsAreTheLegalOnes : Obligations.DecodableWordsAreTheLegalOnes := by
  unfold Obligations.DecodableWordsAreTheLegalOnes
  intro w
  constructor
  · rintro ⟨i, h⟩
    rw [← encodeAfterDecodeIsIdentity w i h]
    exact wordWellFormed_encode i
  · intro h
    obtain ⟨r, hr, hsel⟩ := exists_row_of_wordWellFormed h
    exact ⟨_, decode_of_selects hr hsel⟩

/-- Settles O5: each legal word is its command's encoding, and no row selects an illegal one. -/
theorem specWordsDecode : Obligations.SpecWordsDecode := by
  unfold Obligations.SpecWordsDecode
  refine ⟨?_, ?_, ?_, ?_, ?_, by decide, by decide⟩
  · exact decodeAfterEncodeIsIdentity (.fclr .rx) rfl
  · exact decodeAfterEncodeIsIdentity (.fput .rx 0x7A#8) rfl
  · exact decodeAfterEncodeIsIdentity (.fget .rx) rfl
  · exact decodeAfterEncodeIsIdentity (.write 0x41#8) rfl
  · exact decodeAfterEncodeIsIdentity .txrdy rfl

end Sys2Proof
end

section
/-! The packed status word (R88): its fields, and the record unpacked from them. -/

namespace Sys2Proof

@[simp] theorem StatusWord.pack_data (r : StatusWord) : r.pack.extractLsb' 0 8 = r.data :=
  BitVec.extractLsb'_append_eq_right

@[simp] theorem StatusWord.pack_zeros (r : StatusWord) : r.pack.extractLsb' 8 4 = 0 := by
  rw [StatusWord.pack, BitVec.extractLsb'_append_eq_of_le (by decide)]
  exact BitVec.extractLsb'_append_eq_right

/-- The bits from 12 on are the four flags (R88). -/
theorem StatusWord.pack_getLsbD_flag (r : StatusWord) (k : Nat) : r.pack.getLsbD (4 + k + 8) =
    (BitVec.ofBool r.sum ++ BitVec.ofBool r.pe ++ BitVec.ofBool r.fe ++ BitVec.ofBool r.oe).getLsbD k := by
  rw [StatusWord.pack, BitVec.getLsbD_append, if_neg (by omega), Nat.add_sub_cancel, BitVec.getLsbD_append,
    if_neg (by omega), Nat.add_sub_cancel_left]

theorem flags_getLsbD : ∀ sum pe fe oe : Bool,
    let flags := BitVec.ofBool sum ++ BitVec.ofBool pe ++ BitVec.ofBool fe ++ BitVec.ofBool oe
    flags.getLsbD 0 = oe ∧ flags.getLsbD 1 = fe ∧ flags.getLsbD 2 = pe ∧ flags.getLsbD 3 = sum := by decide

theorem StatusWord.pack_flags (r : StatusWord) :
    r.pack.getLsbD 12 = r.oe ∧ r.pack.getLsbD 13 = r.fe ∧ r.pack.getLsbD 14 = r.pe ∧ r.pack.getLsbD 15 = r.sum := by
  obtain ⟨hoe, hfe, hpe, hsum⟩ := flags_getLsbD r.sum r.pe r.fe r.oe
  exact ⟨(r.pack_getLsbD_flag 0).trans hoe, (r.pack_getLsbD_flag 1).trans hfe, (r.pack_getLsbD_flag 2).trans hpe,
    (r.pack_getLsbD_flag 3).trans hsum⟩

theorem StatusWord.unpack_pack (r : StatusWord) : StatusWord.unpack r.pack = r := by
  obtain ⟨hoe, hfe, hpe, hsum⟩ := r.pack_flags
  rw [StatusWord.unpack, r.pack_data, hoe, hfe, hpe, hsum]

/-- Settles O6: field by field. -/
theorem statusWordPacksTheRecord : Obligations.StatusWordPacksTheRecord := by
  unfold Obligations.StatusWordPacksTheRecord
  exact fun r => ⟨r.unpack_pack, r.pack_data, r.pack_zeros, r.pack_flags⟩

end Sys2Proof
end

section
/-! The issue of an illegal word (R85, log 10). -/

namespace Sys2Proof.Machine

/-- An illegal word is issued as its marker alone (R85, R216). -/
theorem issueWord_of_not_wordWellFormed {w : Word16} (h : wordWellFormed w = false) (s : State) :
    issueWord w s = .next (s.mark (.illegalCommand w)) := by
  cases hd : decode w with
  | ok i => simp [(decodableWordsAreTheLegalOnes w).mp ⟨i, hd⟩] at h
  | error e => simp [issueWord, hd]

theorem State.mark_eq_markers (s : State) (m : Marker) :
    s.mark m = { s with markers := if m ∈ s.markers then s.markers else s.markers ++ [m] } := by
  unfold State.mark
  split <;> rfl

/-- Settles O8: the foreground's turn issues the word, and an illegal word is issued as its marker. -/
theorem illegalWordOnlyRecordsItsMarker : Obligations.IllegalWordOnlyRecordsItsMarker := by
  unfold Obligations.IllegalWordOnlyRecordsItsMarker
  intro s n rest w cs hw hr hb ht hc hill
  rw [step_foreground_of_ready hw hr hb ht hc, issueWord_of_not_wordWellFormed hill, State.mark_eq_markers]
  rfl

end Sys2Proof.Machine
end

section
/-! The index arithmetic of the container, settled: the successor (R100 to R102) and the derived occupancy (R103). -/

namespace Sys2Proof.Machine

/-- Settles O23. -/
theorem successorIsModuloCapacity : Obligations.SuccessorIsModuloCapacity := by
  unfold Obligations.SuccessorIsModuloCapacity
  intro m c i hc hm hi
  exact inc_toNat hc hm hi

/-- Settles O24: both forms are the successor modulo the capacity. -/
theorem maskAndModuloFormsAgree : Obligations.MaskAndModuloFormsAgree := by
  unfold Obligations.MaskAndModuloFormsAgree
  intro k i hk hi
  have hcap : 2 ^ k ≤ 256 := Nat.pow_le_pow_right (n := 2) (by decide) hk
  exact ⟨BitVec.eq_of_toNat_eq ((incMask_toNat hk).trans (incModulo_toNat hcap hi).symm), incMask_toNat hk⟩

/-- The occupancy is the one number below the capacity that the index difference is congruent to (R103). -/
theorem occOf_eq_iff {c n : Nat} (hn : n < c) (q : Fifo) :
    occOf c q = n ↔ (q.put.toNat - q.get.toNat : Int) ≡ n [ZMOD c] := by
  rw [← occOf_eq_mod_iff (Nat.zero_lt_of_lt hn), Nat.mod_eq_of_lt hn]

/-- The occupancy is the Euclidean remainder of the index difference (R10, R103). -/
theorem occOf_cast {c : Nat} (hc : 0 < c) (q : Fifo) :
    (occOf c q : Int) = (q.put.toNat - q.get.toNat : Int) % c :=
  Int.toNat_of_nonneg (Int.emod_nonneg _ (by omega))

theorem occOf_lt {c : Nat} (hc : 0 < c) (q : Fifo) : occOf c q < c := by
  have h : (occOf c q : Int) < c := occOf_cast hc q ▸ Int.emod_lt_of_pos _ (by omega)
  exact_mod_cast h

/-- The occupancy without a remainder: the difference, with one capacity added when put has wrapped (R103). -/
theorem occOf_eq_ite {c : Nat} {q : Fifo} (hget : q.get.toNat < c) (hput : q.put.toNat < c) :
    occOf c q =
      if q.put.toNat ≥ q.get.toNat then q.put.toNat - q.get.toNat else q.put.toNat + c - q.get.toNat := by
  split
  next h => exact (occOf_eq_iff (by omega) q).2 (by rw [Nat.cast_sub h])
  next h =>
    refine (occOf_eq_iff (by omega) q).2 (Int.modEq_iff_dvd.2 ⟨1, ?_⟩)
    omega

/-- Indices in range are occupancy 0 only when equal (R103). -/
theorem occOf_eq_zero_iff {c : Nat} {q : Fifo} (hget : q.get.toNat < c) (hput : q.put.toNat < c) :
    occOf c q = 0 ↔ q.put = q.get := by
  refine ⟨fun h => BitVec.eq_of_toNat_eq ?_, occOf_of_put_eq_get c⟩
  rw [occOf_eq_ite hget hput] at h
  split at h <;> omega

/-- For a power of two the occupancy is the nine-bit difference masked: 512 is a multiple of the capacity, so the borrow
does not show (R103). -/
theorem occOf_eq_masked_difference {k : Nat} (hk : k ≤ 8) (q : Fifo) :
    occOf (2 ^ k) q = ((q.put.setWidth 9 - q.get.setWidth 9) &&& BitVec.ofNat 9 (2 ^ k - 1)).toNat := by
  have hdvd : 2 ^ k ∣ 2 ^ 9 := Nat.pow_dvd_pow 2 (by omega)
  have hmask : 2 ^ k - 1 < 2 ^ 9 :=
    (Nat.sub_le _ _).trans_lt (Nat.pow_lt_pow_right (by decide) (Nat.lt_succ_of_le hk))
  have hget : q.get.toNat < 2 ^ 9 := q.get.isLt.trans (by decide)
  have hput : q.put.toNat < 2 ^ 9 := q.put.isLt.trans (by decide)
  have hdiff : ((q.put.setWidth 9 - q.get.setWidth 9) &&& BitVec.ofNat 9 (2 ^ k - 1)).toNat =
      (2 ^ 9 - q.get.toNat + q.put.toNat) % 2 ^ k := by
    rw [BitVec.toNat_and, BitVec.toNat_ofNat, Nat.mod_eq_of_lt hmask, Nat.and_two_pow_sub_one_eq_mod, BitVec.toNat_sub,
      BitVec.toNat_setWidth, BitVec.toNat_setWidth, Nat.mod_eq_of_lt hget, Nat.mod_eq_of_lt hput,
      Nat.mod_mod_of_dvd _ hdvd]
  rw [hdiff, occOf_eq_mod_iff (Nat.two_pow_pos k), Int.modEq_iff_dvd]
  have hborrow : ((2 ^ 9 - q.get.toNat + q.put.toNat : Nat) - (q.put.toNat - q.get.toNat) : Int) = (2 ^ 9 : Nat) := by
    omega
  exact hborrow ▸ Int.natCast_dvd_natCast.2 hdvd

/-- Settles O25: form by form. -/
theorem occupancyIsTheIndexDifference : Obligations.OccupancyIsTheIndexDifference := by
  unfold Obligations.OccupancyIsTheIndexDifference
  intro c q hget hput
  refine ⟨occOf_eq_ite hget hput, occOf_lt (Nat.zero_lt_of_lt hget) q, occOf_eq_zero_iff hget hput, ?_⟩
  rintro k hk rfl
  exact occOf_eq_masked_difference hk q

end Sys2Proof.Machine
end

section
/-! The commands of one pure action: FLEN, FSIZ and AVAIL (R107, R108, R135). -/

namespace Sys2Proof.Machine

/-- A context at rest answers at once: two events, nothing else. -/
theorem answer_of_idle {s : State} (h : (s.ctx s.issuer).pc = .idle) (i : Instr) (r : Word16) :
    answer i r s = .next { s with
      trace := s.trace ++ [.issued (s.agentOf s.issuer) i, .returned (s.agentOf s.issuer) r] } := by
  simp [answer, h, State.emit]

/-- Settles O33: each of the three is one answer. -/
theorem pureCommandsAnswerAndChangeNothing : Obligations.PureCommandsAnswerAndChangeNothing := by
  unfold Obligations.PureCommandsAnswerAndChangeNothing
  intro s h
  exact ⟨fun f => answer_of_idle h (.flen f) _, fun f => answer_of_idle h (.fsiz f) _, answer_of_idle h .avail _⟩

end Sys2Proof.Machine
end

section
/-! FCLR and FPUT in the foreground at rest, each its two actions to its end (R104, R105). -/

namespace Sys2Proof.Machine

theorem exec_fclr_of_ready {s : State} (h : s.ready = true) (f : Sel) :
    exec (.fclr f) s = runCtx .fg s.grant
      ((s.popClrOrder.setCtx .fg (enterClear f s.putFirst s.fg)).emit (.issued .fg (.fclr f))) := by
  have hpop : s.popClrOrder.ready = true := by simpa [State.ready] using h
  exact issue_of_ready hpop (.fclr f) (enterClear f s.putFirst)

/-- An operation of two actions, to its end. -/
theorem runCtx_twoActions {w : Who} {s t u : State} (hs : (s.ctx w).pc ≠ .idle) (hst : act w s = .next t)
    (ht : (t.ctx w).pc ≠ .idle) (htu : act w t = .next u) (hu : (u.ctx w).pc = .idle) (n : Nat) :
    runCtx w (n + 2) s = .next u := by
  unfold runCtx
  rw [runTo_of_act hs hst, runTo_of_act ht htu, runTo_stop hu]

/-- FCLR's two writes in either order, to its end (R104). -/
theorem runCtx_fclrToEnd {f : Sel} {s : State} {c : Ctx} {putFirst : Bool} (hc : s.fg = enterClear f putFirst c)
    (n : Nat) :
    runCtx .fg (n + 2) s = .next ((s.setFifo f { s.fifo f with get := 0, put := 0, cnt := 0 }).setCtx .fg
      { s.fg with pc := .idle, ret := .idle }) := by
  cases putFirst with
  | false =>
    have hget : act .fg s = .next (finishClear .fg (s.clearGet f)) := by simp [act, hc, enterClear]
    have hput : act .fg (finishClear .fg (s.clearGet f)) =
        .next (finishClear .fg ((finishClear .fg (s.clearGet f)).clearPut f)) := by
      simp [act, finishClear, hc, enterClear]
    rw [runCtx_twoActions (by simp [hc, enterClear]) hget (by simp [finishClear, hc, enterClear]) hput
      (by simp [finishClear])]
    cases f <;> simp [finishClear, State.clearGet, State.clearPut, State.fifo, State.setFifo, State.setCtx]
  | true =>
    have hput : act .fg s = .next (finishClear .fg (s.clearPut f)) := by simp [act, hc, enterClear]
    have hget : act .fg (finishClear .fg (s.clearPut f)) =
        .next (finishClear .fg ((finishClear .fg (s.clearPut f)).clearGet f)) := by
      simp [act, finishClear, hc, enterClear]
    rw [runCtx_twoActions (by simp [hc, enterClear]) hput (by simp [finishClear, hc, enterClear]) hget
      (by simp [finishClear])]
    cases f <;> simp [finishClear, State.clearGet, State.clearPut, State.fifo, State.setFifo, State.setCtx]

/-- FCLR's operand, latched in either order of its writes (R61). -/
theorem enterClear_atEnd (f : Sel) (putFirst : Bool) (c : Ctx) :
    { enterClear f putFirst c with pc := .idle, ret := .idle } = { c with pc := .idle, sel := f, ret := .idle } := by
  cases putFirst <;> rfl

/-- Settles O27: the two writes end in the same state in either order. -/
theorem fclrZeroesBothIndices : Obligations.FclrZeroesBothIndices := by
  unfold Obligations.FclrZeroesBothIndices
  intro s f hr hg
  obtain ⟨n, hn⟩ := Nat.exists_eq_add_of_le' hg
  have e : exec (.fclr f) s = .next { s.setFifo f { s.fifo f with get := 0, put := 0, cnt := 0 } with
      fg := { s.fg with pc := .idle, sel := f, ret := .idle }
      clrOrder := s.clrOrder.tail
      trace := s.trace ++ [.issued .fg (.fclr f)] } := by
    rw [exec_fclr_of_ready hr, hn, runCtx_fclrToEnd (f := f) (c := s.fg) (putFirst := s.putFirst) rfl,
      ← enterClear_atEnd f s.putFirst s.fg]
    cases f <;> rfl
  refine ⟨_, e, ?_, rfl⟩
  cases f <;> exact occOf_of_put_eq_get _ rfl

theorem exec_fput_of_ready {s : State} (h : s.ready = true) (f : Sel) (v : Byte) :
    exec (.fput f v) s = runCtx .fg s.grant
      ((s.setCtx .fg { s.fg with pc := .p1, sel := f, b := v, ret := .idle }).emit (.issued .fg (.fput f v))) :=
  issue_of_ready h (.fput f v) fun c => { c with pc := .p1, sel := f, b := v, ret := .idle }

/-- P2 as one record update: put advanced, the count grown or FIFO_OVERFLOW recorded (R105, R109). -/
theorem State.advancePut_eq (s : State) (f : Sel) :
    s.advancePut f =
      { s.setFifo f { s.fifo f with
          put := inc (s.mode f) (s.cap f) (s.fifo f).put
          cnt := if (s.fifo f).cnt = s.cap f then s.cap f else (s.fifo f).cnt + 1 } with
        markers :=
          if (s.fifo f).cnt = s.cap f ∧ Marker.fifoOverflow f ∉ s.markers
          then s.markers ++ [.fifoOverflow f] else s.markers } := by
  unfold State.advancePut
  rw [State.mark_eq_markers]
  split
  next hc =>
    simp only [hc, true_and, ite_not]
    cases f <;> rfl
  next hc =>
    simp only [hc, false_and, if_false]
    cases f <;> rfl

/-- FPUT's two actions, to its end (R105). -/
theorem runCtx_fputToEnd {w : Who} {s : State} (hpc : (s.ctx w).pc = .p1) (hret : (s.ctx w).ret = .idle) (n : Nat) :
    runCtx w (n + 2) s =
      .next ((((s.writeSlot (s.ctx w).sel (s.ctx w).b).goto w .p2).advancePut (s.ctx w).sel).goto w .idle) := by
  refine runCtx_twoActions (t := (s.writeSlot (s.ctx w).sel (s.ctx w).b).goto w .p2) (by simp [hpc])
    (by simp [act, hpc]) (by simp) ?_ (by simp) n
  simp [act, State.ret, hret]

/-- Settles O28: P1 stores, P2 advances put and counts. -/
theorem fputStoresAndAdvances : Obligations.FputStoresAndAdvances := by
  unfold Obligations.FputStoresAndAdvances
  intro s f v hr hg
  obtain ⟨n, hn⟩ := Nat.exists_eq_add_of_le' hg
  rw [exec_fput_of_ready hr, hn, runCtx_fputToEnd rfl rfl, State.advancePut_eq]
  cases f <;> rfl

end Sys2Proof.Machine
end

section
/-! A get on a written slot, FGET's and READ's, to its end (R106, R111, R134): what the dequeue's second action leaves, the
element gone to the caller. -/

namespace Sys2Proof.Machine

/-- The dequeue's second action looks at no context. -/
theorem State.advanceGet_setCtx {s u : State} {f : Sel} (h : s.advanceGet f = .next u) (w : Who) (c : Ctx) :
    (s.setCtx w c).advanceGet f = .next (u.setCtx w c) := by
  rcases State.advanceGet_next h with ⟨h0, rfl⟩ | ⟨h0, hp, rfl⟩
  · simp only [State.advanceGet, State.fifo_setCtx, h0, if_false]
    cases f <;> cases w <;> rfl
  · simp only [State.advanceGet, State.fifo_setCtx, h0, if_true, State.setCtx_cfg, hp, State.mark_eq_markers]
    cases f <;> cases w <;> rfl

/-- The dequeue's second action looks at no trace. -/
theorem State.advanceGet_emit {s u : State} {f : Sel} (h : s.advanceGet f = .next u) (e : Event) :
    (s.emit e).advanceGet f = .next (u.emit e) := by
  rcases State.advanceGet_next h with ⟨h0, rfl⟩ | ⟨h0, hp, rfl⟩
  · simp only [State.advanceGet, State.fifo_emit, h0, if_false]
    cases f <;> rfl
  · simp only [State.advanceGet, State.fifo_emit, h0, if_true, State.emit_cfg, hp, State.mark_eq_markers]
    cases f <;> rfl

variable {s u : State} {f : Sel} {v : Byte}

theorem State.readSlot_of_written (hm : memRead (s.fifo f).store (s.fifo f).get.toNat = some v) (w : Who) :
    s.readSlot w f = s.setCtx w { s.ctx w with v := v } := by
  simp [State.readSlot, Fifo.getSlot, hm]

/-- The two actions of a get on a written slot, right after the issue that left context `c` and event `e`. -/
theorem State.get_of_written (hm : memRead (s.fifo f).store (s.fifo f).get.toNat = some v)
    (hu : s.advanceGet f = .next u) (w : Who) (c : Ctx) (e : Event) (p : Phase) :
    ((((s.setCtx w c).emit e).readSlot w f).goto w p).advanceGet f =
      .next ((u.emit e).setCtx w { c with pc := p, v := v }) := by
  have hread : ((((s.setCtx w c).emit e).readSlot w f).goto w p) = (s.emit e).setCtx w { c with pc := p, v := v } := by
    rw [State.readSlot_of_written (v := v) (by simpa using hm)]
    cases w <;> rfl
  rw [hread]
  exact State.advanceGet_setCtx (State.advanceGet_emit hu e) w _

/-- A get in the foreground on a written slot leaves what its second action leaves, the context and two events aside. -/
def State.handedOver (u : State) (c : Ctx) (i : Instr) (v : Byte) : State :=
  { u with fg := { c with pc := .idle, v := v }, trace := u.trace ++ [.issued .fg i, .returned .fg (v.setWidth 16)] }

@[simp] theorem State.handedOver_fifo (u : State) (c : Ctx) (i : Instr) (v : Byte) (f : Sel) :
    (u.handedOver c i v).fifo f = u.fifo f := by
  cases f <;> rfl
@[simp] theorem State.handedOver_cap (u : State) (c : Ctx) (i : Instr) (v : Byte) (f : Sel) :
    (u.handedOver c i v).cap f = u.cap f := rfl
@[simp] theorem State.handedOver_markers (u : State) (c : Ctx) (i : Instr) (v : Byte) :
    (u.handedOver c i v).markers = u.markers := rfl
@[simp] theorem State.handedOver_trace (u : State) (c : Ctx) (i : Instr) (v : Byte) :
    (u.handedOver c i v).trace = u.trace ++ [.issued .fg i, .returned .fg (v.setWidth 16)] := rfl

theorem exec_fget_of_written (hr : s.ready = true) (hg : 2 ≤ s.grant)
    (hm : memRead (s.fifo f).store (s.fifo f).get.toNat = some v) (hu : s.advanceGet f = .next u) :
    exec (.fget f) s = .next (u.handedOver { s.fg with sel := f, ret := .idle } (.fget f) v) := by
  obtain ⟨n, hn⟩ := Nat.exists_eq_add_of_le' hg
  rw [exec_fget_of_ready hr, hn, runCtx_fgetToEnd rfl rfl rfl (State.get_of_written hm hu .fg _ _ .g2)]
  simp [State.handedOver, State.goto, State.setCtx, State.emit, elementResponse]

theorem exec_read_of_written (hr : s.ready = true) (hg : 2 ≤ s.grant)
    (hm : memRead s.rx.store s.rx.get.toNat = some v) (hu : s.advanceGet .rx = .next u) :
    exec .read s = .next (u.handedOver s.fg .read v) := by
  obtain ⟨n, hn⟩ := Nat.exists_eq_add_of_le' hg
  rw [exec_read_of_ready hr, hn, runCtx_readToEnd rfl (State.get_of_written (f := .rx) hm hu .fg _ _ .d2)]
  simp [State.handedOver, State.goto, State.setCtx, State.emit, elementResponse]

/-- With unread elements the dequeue's second action takes one (R106). -/
theorem State.advanceGet_of_cnt_ne_zero (h : (s.fifo f).cnt ≠ 0) :
    s.advanceGet f = .next (s.setFifo f
      { s.fifo f with get := inc (s.mode f) (s.cap f) (s.fifo f).get, cnt := (s.fifo f).cnt - 1 }) := by
  simp [State.advanceGet, h]

/-- On an empty FIFO, under `stale`, it moves the index all the same and records the marker (R111). -/
theorem State.advanceGet_of_stale (h : (s.fifo f).cnt = 0) (hp : s.cfg.emptyGet = .stale) :
    s.advanceGet f = .next
      ((s.setFifo f { s.fifo f with get := inc (s.mode f) (s.cap f) (s.fifo f).get }).mark (.emptyGet f)) := by
  simp [State.advanceGet, h, hp]

/-- Settles O29: on a written slot FGET leaves what its second action leaves, and with unread elements that takes one. -/
theorem fgetReturnsAndAdvances : Obligations.FgetReturnsAndAdvances := by
  unfold Obligations.FgetReturnsAndAdvances
  intro s f v hr hg h0 hm
  rw [exec_fget_of_written hr hg hm (State.advanceGet_of_cnt_ne_zero h0)]
  cases f <;> rfl

/-! ### The occupancy after an index has moved (R103) -/

/-- Advancing get takes one from the index difference. -/
theorem State.difference_inc_get (hw : s.cfg.wellFormed = true) {q : Fifo} (hget : q.get.toNat < s.cap f) :
    (q.put.toNat - (inc (s.mode f) (s.cap f) q.get).toNat : Int) ≡ q.put.toNat - q.get.toNat - 1 [ZMOD s.cap f] :=
  ((State.inc_modEq hw hget).sub_left _).trans (by rw [sub_sub])

/-- Advancing put adds one to the index difference. -/
theorem State.difference_inc_put (hw : s.cfg.wellFormed = true) {q : Fifo} (hput : q.put.toNat < s.cap f) :
    ((inc (s.mode f) (s.cap f) q.put).toNat - q.get.toNat : Int) ≡ q.put.toNat - q.get.toNat + 1 [ZMOD s.cap f] :=
  ((State.inc_modEq hw hput).sub_right _).trans (by rw [add_sub_right_comm])

/-- The occupancy is congruent to the index difference (R103). -/
theorem occOf_modEq {c : Nat} (hc : 0 < c) (q : Fifo) :
    (q.put.toNat - q.get.toNat : Int) ≡ occOf c q [ZMOD c] :=
  (occOf_eq_mod_iff hc q _).1 (Nat.mod_eq_of_lt (occOf_lt hc q)).symm

/-- A get takes one from the occupancy, from 0 to C - 1 (R111). -/
theorem State.occ_inc_get (hw : s.cfg.wellFormed = true) (hget : (s.fifo f).get.toNat < s.cap f) :
    occOf (s.cap f) { s.fifo f with get := inc (s.mode f) (s.cap f) (s.fifo f).get } =
      (s.occ f + s.cap f - 1) % s.cap f := by
  have hpos : 0 < s.cap f := Nat.zero_lt_of_lt hget
  rw [occOf_eq_mod_iff hpos]
  calc ((s.fifo f).put.toNat - (inc (s.mode f) (s.cap f) (s.fifo f).get).toNat : Int)
      ≡ (s.fifo f).put.toNat - (s.fifo f).get.toNat - 1 [ZMOD s.cap f] := State.difference_inc_get hw hget
    _ ≡ s.occ f - 1 [ZMOD s.cap f] := (occOf_modEq hpos _).sub_right 1
    _ ≡ s.occ f - 1 + s.cap f [ZMOD s.cap f] := by simp
    _ = (s.occ f + s.cap f - 1 : Nat) := by omega

/-- Settles O30: FGET and READ take the slot's old content, and their second action, one and the same, moves get. -/
theorem emptyGetReturnsTheStaleElement : Obligations.EmptyGetReturnsTheStaleElement := by
  unfold Obligations.EmptyGetReturnsTheStaleElement
  intro s f v hr hg hp hw h0 hm
  have hu := State.advanceGet_of_stale h0 hp
  refine ⟨_, exec_fget_of_written hr hg hm hu, by simp, by simp [State.mem_markers_mark], fun hget => ?_, by simp, ?_⟩
  · have hocc := State.occ_inc_get hw hget
    refine ⟨by simpa [State.occ] using hocc, fun hpg => ?_⟩
    have hempty : s.occ f = 0 := occOf_of_put_eq_get _ hpg
    refine ⟨hempty, ?_⟩
    rw [hempty, Nat.zero_add, Nat.mod_eq_of_lt (by omega)] at hocc
    simpa [State.occ] using hocc
  · rintro rfl
    exact ⟨_, exec_read_of_written hr hg hm hu, rfl, rfl, by simp⟩

end Sys2Proof.Machine
end

section
/-! An empty get under the policy `fault` (R111), in each of the four commands that make one. -/

namespace Sys2Proof.Machine

variable {s : State} {w : Who} {stop : Phase} {f : Sel}

/-- A slice ends in the fault its next action ends in. -/
theorem runTo_of_fault {e : Fault} (hs : (s.ctx w).pc ≠ stop) (h : act w s = .fault e) (n : Nat) :
    runTo stop w (n + 1) s = .fault e := by
  rw [runTo_succ, if_neg hs, h, andThen_fault]

/-- The dequeue's second action on an empty FIFO, under `fault` (R111). -/
theorem actAdvance_of_fault (h : (s.fifo f).cnt = 0) (hp : s.cfg.emptyGet = .fault) (k : State → State) :
    actAdvance f k s = .fault (.emptyGet f) := by
  simp [actAdvance, State.advanceGet, h, hp]

theorem runCtx_fget_of_fault (hpc : (s.ctx w).pc = .g1) (hsel : (s.ctx w).sel = f) (h : (s.fifo f).cnt = 0)
    (hp : s.cfg.emptyGet = .fault) (n : Nat) : runCtx w (n + 2) s = .fault (.emptyGet f) := by
  unfold runCtx
  rw [runTo_of_act (t := (s.readSlot w f).goto w .g2) (by simp [hpc]) (by simp [act, hpc, hsel]),
    runTo_of_fault (e := .emptyGet f) (by simp) (by simp [act, hsel, actAdvance_of_fault, h, hp])]

theorem runCtx_read_of_fault (hpc : (s.ctx w).pc = .d1) (h : s.rx.cnt = 0) (hp : s.cfg.emptyGet = .fault) (n : Nat) :
    runCtx w (n + 2) s = .fault (.emptyGet .rx) := by
  unfold runCtx
  rw [runTo_of_act (t := (s.readSlot w .rx).goto w .d2) (by simp [hpc]) (by simp [act, hpc]),
    runTo_of_fault (by simp) (by simp only [act, State.goto_ctx]; exact actAdvance_of_fault (by simpa) (by simpa) _)]

/-- TXRDY from T1 with data: T1, T2 and FGET's two actions (R161). -/
theorem runCtx_txrdy_of_fault (hpc : (s.ctx w).pc = .t1) (hocc : 0 < s.occ .tx) (h : s.tx.cnt = 0)
    (hp : s.cfg.emptyGet = .fault) (n : Nat) : runCtx w (n + 4) s = .fault (.emptyGet .tx) := by
  have hget := runCtx_fget_of_fault (s := (s.goto w .t2).callGet w .tx .t3) (w := w) (f := .tx) (by simp) (by simp)
    (by simpa) (by simpa) n
  unfold runCtx at hget ⊢
  rw [runTo_of_act (t := s.goto w .t2) (by simp [hpc]) (by simp [act, hpc, actT1, hocc]),
    runTo_of_act (t := (s.goto w .t2).callGet w .tx .t3) (by simp) (by simp [act]), hget]

/-- RESUME from S1 with everything there for a kick: S1 to S5 (R133). -/
theorem runTo_kick_of_fault (hstop : stop ∉ resumePhases) (hpc : (s.ctx w).pc = .s1) (hst : s.stalled = true)
    (hocc : 0 < s.occ .tx) (hans : s.txEmptyAnswer = true) (h : s.tx.cnt = 0) (hp : s.cfg.emptyGet = .fault) (n : Nat) :
    runTo stop w (n + 5) s = .fault (.emptyGet .tx) := by
  have hne : ∀ p ∈ resumePhases, p ≠ stop := fun p hp h => hstop (h ▸ hp)
  simp only [resumePhases, List.forall_mem_cons] at hne
  obtain ⟨h1, h2, h3, h4, h5, -⟩ := hne
  rw [runTo_of_act (t := s.goto w .s2) (by simpa [hpc]) (by simp [act, hpc, actS1, hst]),
    runTo_of_act (t := s.goto w .s3) (by simpa) (by simp [act, actS2, hocc]),
    runTo_of_act (t := ((s.goto w .s3).pollTxEmpty (s.agentOf w)).goto w .s4) (by simpa) (by simp [act, actS3, hans]),
    runTo_of_act (t := ((((s.goto w .s3).pollTxEmpty (s.agentOf w)).goto w .s4).readSlot w .tx).goto w .s5) (by simpa)
      (by simp [act]),
    runTo_of_fault (by simpa)
      (by simp only [act, State.goto_ctx]; exact actAdvance_of_fault (by simpa) (by simpa) _)]

/-- RESUME is issued from `IDLE` or between a handler's own phases, so it comes back to no phase of its own (R133). -/
theorem State.resumer_pc_of_canResume (h : s.canResume = true) : (s.ctx s.resumer).pc ∉ resumePhases := by
  have hresume : ∀ p ∈ resumePhases, p ≠ .idle ∧ handlerPhase p = false := by decide
  intro hmem
  obtain ⟨hidle, hown⟩ := hresume _ hmem
  cases ha : s.handlerActive with
  | true =>
    simp [State.canResume, State.handlerFree, ha] at h
    simp [State.resumer, ha, h.1] at hown
  | false =>
    simp [State.canResume, ha] at h
    simp [State.resumer, ha, h] at hidle

/-- RESUME in either context, from the phase it was issued in (R133). -/
theorem exec_resume_of_canResume (h : s.canResume = true) :
    exec .resume s = runTo (s.ctx s.resumer).pc s.resumer s.grant
      ((s.callResume s.resumer (s.ctx s.resumer).pc).emit (.issued (s.agentOf s.resumer) .resume)) :=
  if_pos h

/-- Settles O31: command by command. -/
theorem emptyGetFaultsUnderTheFaultPolicy : Obligations.EmptyGetFaultsUnderTheFaultPolicy := by
  unfold Obligations.EmptyGetFaultsUnderTheFaultPolicy
  intro s hp
  refine ⟨fun f hr hg h => ?_, fun hr hg h => ?_, fun ha hg h hocc => ?_, fun hr hg h hocc hst hans => ?_⟩
  · obtain ⟨n, hn⟩ := Nat.exists_eq_add_of_le' hg
    rw [exec_fget_of_ready hr, hn]
    exact runCtx_fget_of_fault rfl rfl (by simpa using h) (by simpa using hp) n
  · obtain ⟨n, hn⟩ := Nat.exists_eq_add_of_le' hg
    rw [exec_read_of_ready hr, hn]
    exact runCtx_read_of_fault rfl (by simpa using h) (by simpa using hp) n
  · obtain ⟨n, hn⟩ := Nat.exists_eq_add_of_le' hg
    rw [exec_txrdy_of_noHandler ha, hn]
    exact runCtx_txrdy_of_fault rfl (by simpa using hocc) (by simpa using h) (by simpa using hp) n
  · obtain ⟨n, hn⟩ := Nat.exists_eq_add_of_le' hg
    rw [exec_resume_of_canResume hr, hn]
    exact runTo_kick_of_fault (State.resumer_pc_of_canResume hr) (by simp) (by simpa using hst) (by simpa using hocc)
      (by simpa [State.txEmptyAnswer] using hans) (by simpa using h) (by simpa using hp) n

end Sys2Proof.Machine
end

section
/-! FPUT and FGET one after the other in the foreground: what each leaves for the next, and the put into a full FIFO
(R109, R112). -/

namespace Sys2Proof.Machine

variable {s t : State} {f : Sel}

/-- What a foreground's container operation that has come to its end leaves for the next one: the foreground at rest, the
grant and the configuration. -/
structure AtRest (s t : State) : Prop where
  ready : t.ready = true
  grant : t.grant = s.grant
  cfg : t.cfg = s.cfg

theorem AtRest.cap (h : AtRest s t) (f : Sel) : t.cap f = s.cap f := congrArg (Cfg.cap · f) h.cfg

theorem atRest_of_container {i : Instr} (hi : isContainerOp f i) (hr : s.ready = true) (e : exec i s = .next t)
    (hpc : t.fg.pc = .idle) : AtRest s t := by
  obtain ⟨-, -, -, -, htxi, hrxi, -, hcfg, -, -, -, hgrant, -⟩ := containerFrame s t f i hi e
  have hact : t.handlerActive = false := by
    simpa [State.handlerActive, htxi, hrxi] using (State.ready_iff.mp hr).1
  exact ⟨State.ready_iff.mpr ⟨hact, hpc⟩, hgrant, hcfg⟩

/-- What FPUT leaves (R105). -/
structure PutDone (f : Sel) (v : Byte) (s t : State) : Prop where
  rest : AtRest s t
  fifo : t.fifo f =
    { get := (s.fifo f).get
      put := inc (s.mode f) (s.cap f) (s.fifo f).put
      store := memWrite (s.fifo f).store (s.fifo f).put.toNat v
      cnt := if (s.fifo f).cnt = s.cap f then s.cap f else (s.fifo f).cnt + 1 }
  full : (s.fifo f).cnt = s.cap f → Marker.fifoOverflow f ∈ t.markers
  room : (s.fifo f).cnt ≠ s.cap f → t.markers = s.markers
  trace : t.trace = s.trace ++ [.issued .fg (.fput f v)]

theorem exists_putDone (hr : s.ready = true) (hg : 2 ≤ s.grant) (f : Sel) (v : Byte) :
    ∃ t, exec (.fput f v) s = .next t ∧ PutDone f v s t := by
  have e := fputStoresAndAdvances s f v hr hg
  refine ⟨_, e, atRest_of_container (.inr (.inl ⟨v, rfl⟩)) hr e rfl, ?_, fun hc => ?_, fun hc => ?_, rfl⟩
  · cases f <;> rfl
  · by_cases hm : Marker.fifoOverflow f ∈ s.markers <;> simp [hc, hm]
  · simp [hc]

/-- Settles O35: the FPUT stores into the slot at get and leaves a count that is not 0, so the FGET takes that slot. -/
theorem overflowOverwritesTheOldest : Obligations.OverflowOverwritesTheOldest := by
  unfold Obligations.OverflowOverwritesTheOldest
  intro s f v hr hg hw hcap hfull hpg hget
  obtain ⟨u, e, hu⟩ := exists_putDone hr hg f v
  have hm : memRead (u.fifo f).store (s.fifo f).get.toNat = some v := by
    rw [hu.fifo, hpg]
    exact memRead_memWrite_same _ _ v
  have hget' : (u.fifo f).get = (s.fifo f).get := by rw [hu.fifo]
  have hcnt : (u.fifo f).cnt ≠ 0 := by
    have hcap0 : s.cap f ≠ 0 := by omega
    simpa [hu.fifo, hfull] using hcap0
  have hocc : u.occ f = 1 := by
    rw [State.occ, hu.rest.cap, hu.fifo, occOf_eq_iff (by omega)]
    simpa [hpg] using State.difference_inc_put (q := s.fifo f) hw (hpg ▸ hget)
  have e' := fgetReturnsAndAdvances u f v hu.rest.ready (hu.rest.grant ▸ hg) hcnt (hget' ▸ hm)
  exact ⟨u, _, e, hu.full hfull, hocc, hget', hm, e', rfl⟩

end Sys2Proof.Machine
end

section
/-! The length law (R113): each FPUT adds one to the index difference and each FGET takes one from it, modulo the
capacity. -/

namespace Sys2Proof.Machine

variable {s t : State} {f : Sel}

/-- A test bench on the container can go on: the machine's invariant, the foreground at rest, a turn long enough for an FPUT
or an FGET (R112). -/
structure Bench (s : State) : Prop where
  inv : s.Inv
  ready : s.ready = true
  grant : 2 ≤ s.grant

theorem Bench.next {i : Instr} (hs : Bench s) (e : exec i s = .next t) (h : AtRest s t) : Bench t :=
  ⟨inv_keptByParts.exec hs.inv rfl e, h.ready, h.grant ▸ hs.grant⟩

theorem Bench.wellFormed (hs : Bench s) : s.cfg.wellFormed = true := (State.inv_iff.1 hs.inv).1

theorem Bench.fifoOk (hs : Bench s) (f : Sel) : fifoOk (s.cap f) (s.fifo f) := by
  obtain ⟨-, hf, -⟩ := State.inv_iff.1 hs.inv
  exact hf f

/-- FGET on any slot, written or not, of a FIFO with an element to take or under `stale`, to its end (R56, R106, R111). -/
theorem exists_getDone (hr : s.ready = true) (hg : 2 ≤ s.grant) (h : (s.fifo f).cnt = 0 → s.cfg.emptyGet = .stale) :
    ∃ t, exec (.fget f) s = .next t ∧ AtRest s t ∧ Dequeued f s t := by
  obtain ⟨n, hn⟩ := Nat.exists_eq_add_of_le' hg
  obtain ⟨u, hu⟩ := State.exists_get (f := f)
    (s := (s.setCtx .fg { s.fg with pc := .g1, sel := f, ret := .idle }).emit (.issued .fg (.fget f)))
    (by simpa using h) .fg .g2
  have e : exec (.fget f) s =
      .next ((u.emit (.returned (u.agentOf .fg) (elementResponse (u.ctx .fg).v))).goto .fg .idle) := by
    rw [exec_fget_of_ready hr, hn, runCtx_fgetToEnd (f := f) rfl rfl rfl hu]
  exact ⟨_, e, atRest_of_container (.inr (.inr rfl)) hr e rfl,
    by simpa [Dequeued, State.mode] using State.advanceGet_dequeued hu⟩

/-- What an operation adds to the index difference. -/
def FifoOp.gain (o : FifoOp) : Int :=
  match o with
  | .put _ => 1
  | .get => -1

/-- The index difference, whose remainder is the occupancy (R22, R103). -/
def State.indexDifference (s : State) (f : Sel) : Int := (s.fifo f).put.toNat - (s.fifo f).get.toNat

/-- One FPUT or FGET, also past overflow and on an empty FIFO. -/
theorem Bench.exists_exec (hs : Bench s) (hp : s.cfg.emptyGet = .stale) (f : Sel) (o : FifoOp) :
    ∃ t, exec (o.instr f) s = .next t ∧ Bench t ∧ t.cfg = s.cfg ∧
      t.indexDifference f ≡ s.indexDifference f + o.gain [ZMOD s.cap f] := by
  obtain ⟨hget, hput, -⟩ := hs.fifoOk f
  cases o with
  | put v =>
    obtain ⟨t, e, h⟩ := exists_putDone hs.ready hs.grant f v
    refine ⟨t, e, hs.next e h.rest, h.rest.cfg, ?_⟩
    rw [State.indexDifference, h.fifo]
    exact State.difference_inc_put hs.wellFormed hput
  | get =>
    obtain ⟨t, e, h, hd, -⟩ := exists_getDone (f := f) hs.ready hs.grant fun _ => hp
    refine ⟨t, e, hs.next e h, h.cfg, ?_⟩
    rw [State.indexDifference, hd]
    exact State.difference_inc_get hs.wellFormed hget

theorem putsOf_sub_getsOf_cons (o : FifoOp) (ops : List FifoOp) :
    ((putsOf (o :: ops)).length - getsOf (o :: ops) : Int) = o.gain + ((putsOf ops).length - getsOf ops) := by
  cases o <;> simp [putsOf, getsOf, FifoOp.gain] <;> ring

theorem Bench.exists_playFifo (f : Sel) (ops : List FifoOp) :
    ∀ {s : State}, Bench s → s.cfg.emptyGet = .stale →
      ∃ t, playFifo f ops s = .next t ∧ t.cfg = s.cfg ∧
        t.indexDifference f ≡ s.indexDifference f + ((putsOf ops).length - getsOf ops) [ZMOD s.cap f] := by
  induction ops with
  | nil => exact fun _ _ => ⟨_, rfl, rfl, by simp [putsOf, getsOf]⟩
  | cons o ops ih =>
    intro s hs hp
    obtain ⟨u, e, hu, hcfg, hdiff⟩ := hs.exists_exec hp f o
    obtain ⟨t, e', hcfg', hdiff'⟩ := ih hu (hcfg ▸ hp)
    have hcap : u.cap f = s.cap f := congrArg (Cfg.cap · f) hcfg
    refine ⟨t, by rw [playFifo, e, andThen_next, e'], hcfg'.trans hcfg, ?_⟩
    rw [putsOf_sub_getsOf_cons, ← add_assoc]
    exact (hcap ▸ hdiff').trans (hdiff.add_right _)

/-- Settles O37: from index difference 0 the operations leave FPUTs minus FGETs, and the occupancy is its remainder. -/
theorem lengthIsPutsMinusGets : Obligations.LengthIsPutsMinusGets := by
  unfold Obligations.LengthIsPutsMinusGets
  intro f ops s hinv hr hg hp hpg
  have hs : Bench s := ⟨hinv, hr, hg⟩
  obtain ⟨t, e, hcfg, hdiff⟩ := hs.exists_playFifo f ops hp
  have hcap : t.cap f = s.cap f := congrArg (Cfg.cap · f) hcfg
  have hzero : s.indexDifference f = 0 := by simp [State.indexDifference, hpg]
  refine ⟨t, e, ?_⟩
  rw [hzero, zero_add] at hdiff
  rw [State.occ, hcap, occOf_cast (Nat.zero_lt_of_lt (hs.fifoOk f).1)]
  exact hdiff

end Sys2Proof.Machine
end

section
/-! The FIFO property (R112): the unread elements, oldest first, are the operands put and not yet got. -/

namespace Sys2Proof.Machine

variable {s t : State} {f : Sel}

/-- The unread elements of a FIFO of capacity `c`, `State.contents` read off the FIFO alone. -/
def unread (c : Nat) (q : Fifo) : List (Option Byte) :=
  (List.range q.cnt).map fun k => memRead q.store ((q.get.toNat + k) % c)

theorem State.contents_eq (s : State) (f : Sel) : s.contents f = unread (s.cap f) (s.fifo f) := rfl

/-- A put with room, at the slot after the newest element, adds its operand at the end: no other of the `c` slots on the way
is the one written. -/
theorem unread_put {c : Nat} {q : Fifo} (hroom : q.cnt < c) (hput : q.put.toNat = (q.get.toNat + q.cnt) % c)
    (i : Index) (v : Byte) :
    unread c { q with put := i, store := memWrite q.store q.put.toNat v, cnt := q.cnt + 1 } =
      unread c q ++ [some v] := by
  have hother : ∀ k ∈ List.range q.cnt, memRead (memWrite q.store q.put.toNat v) ((q.get.toNat + k) % c) =
      memRead q.store ((q.get.toNat + k) % c) := by
    intro k hk
    have hk : k < q.cnt := List.mem_range.1 hk
    refine memRead_memWrite_other _ v fun heq => hk.ne ?_
    rw [hput] at heq
    exact (Nat.ModEq.add_left_cancel' _ heq).eq_of_lt_of_lt (hk.trans hroom) hroom
  simp only [unread, List.range_succ, List.map_append, List.map_cons, List.map_nil, ← hput, memRead_memWrite_same,
    List.map_congr_left hother]

/-- A get takes the element at get, the oldest, and leaves the rest. -/
theorem unread_get {c : Nat} {q : Fifo} {i : Index} (hget : q.get.toNat < c) (hcnt : q.cnt ≠ 0)
    (hi : i.toNat = (q.get.toNat + 1) % c) :
    unread c q = memRead q.store q.get.toNat :: unread c { q with get := i, cnt := q.cnt - 1 } := by
  have hshift : ∀ k, (q.get.toNat + (k + 1)) % c = (i.toNat + k) % c := by
    intro k
    rw [hi, Nat.mod_add_mod, Nat.add_assoc, Nat.add_comm 1 k]
  obtain ⟨n, hn⟩ := Nat.exists_eq_succ_of_ne_zero hcnt
  simp only [unread, hn, List.range_succ_eq_map, List.map_cons, List.map_map, Nat.add_zero, Nat.mod_eq_of_lt hget,
    Function.comp_def, Nat.succ_eq_add_one, hshift, Nat.add_sub_cancel]

/-- A test bench's FIFO `f` holds `xs`, oldest first, and put stands at the slot after the newest (R112). -/
structure Holds (f : Sel) (xs : List Byte) (s : State) : Prop where
  bench : Bench s
  contents : s.contents f = xs.map some
  put : (s.fifo f).put.toNat = ((s.fifo f).get.toNat + (s.fifo f).cnt) % s.cap f

theorem Holds.cnt {xs : List Byte} (h : Holds f xs s) : (s.fifo f).cnt = xs.length := by
  simpa [State.contents] using congrArg List.length h.contents

theorem Holds.exists_put {xs : List Byte} (h : Holds f xs s) (hroom : xs.length < s.cap f) (v : Byte) :
    ∃ t, exec (.fput f v) s = .next t ∧ Holds f (xs ++ [v]) t ∧ t.cap f = s.cap f ∧ t.markers = s.markers ∧
      responses t.trace = responses s.trace := by
  obtain ⟨-, hput, -⟩ := h.bench.fifoOk f
  have hne : (s.fifo f).cnt ≠ s.cap f := h.cnt ▸ hroom.ne
  obtain ⟨t, e, ht⟩ := exists_putDone h.bench.ready h.bench.grant f v
  have hf := ht.fifo
  rw [if_neg hne] at hf
  refine ⟨t, e, ⟨h.bench.next e ht.rest, ?_, ?_⟩, ht.rest.cap f, ht.room hne, by simp [ht.trace, responses]⟩
  · rw [State.contents_eq, ht.rest.cap, hf, unread_put (h.cnt ▸ hroom) h.put, ← State.contents_eq, h.contents,
      List.map_append, List.map_singleton]
  · rw [ht.rest.cap, hf, State.inc_toNat h.bench.wellFormed hput, h.put, Nat.mod_add_mod, Nat.add_assoc]

theorem Holds.exists_get {x : Byte} {xs : List Byte} (h : Holds f (x :: xs) s) :
    ∃ t, exec (.fget f) s = .next t ∧ Holds f xs t ∧ t.cap f = s.cap f ∧ t.markers = s.markers ∧
      responses t.trace = responses s.trace ++ [x.setWidth 16] := by
  obtain ⟨hget, -⟩ := h.bench.fifoOk f
  have hcnt : (s.fifo f).cnt = xs.length + 1 := h.cnt
  have hinc := State.inc_toNat h.bench.wellFormed hget
  have hne : (s.fifo f).cnt ≠ 0 := by omega
  obtain ⟨hm, hrest⟩ := List.cons.inj ((unread_get hget hne hinc).symm.trans h.contents)
  have e := exec_fget_of_written h.bench.ready h.bench.grant hm (State.advanceGet_of_cnt_ne_zero hne)
  have ht := atRest_of_container (.inr (.inr rfl)) h.bench.ready e rfl
  refine ⟨_, e, ⟨h.bench.next e ht, ?_, ?_⟩, ht.cap f, by simp, by simp [responses]⟩
  · rw [State.contents_eq, ht.cap]
    simpa using hrest
  · rw [ht.cap, State.handedOver_fifo, State.fifo_setFifo_same, hinc, h.put, hcnt, Nat.mod_add_mod, Nat.add_sub_cancel,
      Nat.add_assoc, Nat.add_comm 1]

/-- From `n` unread elements the true count stays in `0..c` all along the operations (R112). -/
def CountStays (c n : Nat) (ops : List FifoOp) : Prop :=
  ∀ k, getsOf (ops.take k) ≤ n + (putsOf (ops.take k)).length ∧
    n + (putsOf (ops.take k)).length ≤ getsOf (ops.take k) + c

theorem CountStays.put {c n : Nat} {v : Byte} {ops : List FifoOp} (h : CountStays c n (.put v :: ops)) :
    n < c ∧ CountStays c (n + 1) ops := by
  refine ⟨?_, fun k => ?_⟩
  · simpa [putsOf, getsOf] using (h 1).2
  · have hk := h (k + 1)
    simp only [List.take_succ_cons, putsOf, getsOf, List.length_cons] at hk
    omega

theorem CountStays.get {c n : Nat} {ops : List FifoOp} (h : CountStays c n (.get :: ops)) :
    0 < n ∧ CountStays c (n - 1) ops := by
  have h0 : 0 < n := Nat.succ_le_iff.1 (by simpa [putsOf, getsOf] using (h 1).1)
  refine ⟨h0, fun k => ?_⟩
  have hk := h (k + 1)
  simp only [List.take_succ_cons, putsOf, getsOf] at hk
  omega

/-- The operations answer the elements held and then the operands put, in order. -/
theorem Holds.exists_playFifo (ops : List FifoOp) :
    ∀ {s : State} {xs : List Byte}, Holds f xs s → CountStays (s.cap f) xs.length ops →
      ∃ t, playFifo f ops s = .next t ∧ t.markers = s.markers ∧
        responses t.trace =
          responses s.trace ++ ((xs ++ putsOf ops).take (getsOf ops)).map (fun v => v.setWidth 16) := by
  induction ops with
  | nil => exact fun _ _ => ⟨_, rfl, rfl, by simp [getsOf]⟩
  | cons o ops ih =>
    intro s xs hs hstays
    cases o with
    | put v =>
      obtain ⟨hroom, hrest⟩ := hstays.put
      obtain ⟨u, e, hu, hcap, hmarkers, htrace⟩ := hs.exists_put hroom v
      obtain ⟨t, e', hmarkers', htrace'⟩ := ih hu (by simpa [hcap] using hrest)
      exact ⟨t, by rw [playFifo, FifoOp.instr, e, andThen_next, e'], hmarkers'.trans hmarkers,
        by simp [htrace', htrace, putsOf, getsOf]⟩
    | get =>
      obtain ⟨hpos, hrest⟩ := hstays.get
      obtain ⟨x, ys, rfl⟩ := List.exists_cons_of_length_pos hpos
      obtain ⟨u, e, hu, hcap, hmarkers, htrace⟩ := hs.exists_get
      obtain ⟨t, e', hmarkers', htrace'⟩ := ih hu (by simpa [hcap] using hrest)
      exact ⟨t, by rw [playFifo, FifoOp.instr, e, andThen_next, e'], hmarkers'.trans hmarkers,
        by simp [htrace', htrace, putsOf, getsOf]⟩

/-- Settles O36: the empty FIFO holds nothing, so the answers are the operands. -/
theorem fifoOrderIsKept : Obligations.FifoOrderIsKept := by
  unfold Obligations.FifoOrderIsKept
  intro f ops s hinv hr hg h0 hpg hstays
  have hbench : Bench s := ⟨hinv, hr, hg⟩
  have hempty : Holds f [] s :=
    { bench := hbench
      contents := by simp [State.contents, h0]
      put := by rw [hpg, h0, Nat.add_zero, Nat.mod_eq_of_lt (hbench.fifoOk f).1] }
  simpa using hempty.exists_playFifo ops (by simpa [CountStays] using hstays)

end Sys2Proof.Machine
end

section
/-! The watermark guarantee over a step (R141): only FPUT's P2 inside WRITE makes the outbound count grow, and WRITE comes to
it through the watermark test or the end of the drain-wait. -/

namespace Sys2Proof.Machine

variable {w : Who} {s t : State} {f : Sel}

/-! ### What an action other than FPUT's P2 does to the count and to the overflow marker -/

theorem act_cnt_le (e : act w s = .next t) (h : (s.ctx w).pc = .p2 → (s.ctx w).sel ≠ f) :
    (t.fifo f).cnt ≤ (s.fifo f).cnt := by
  have hf := act_fifo e
  have byFifo : ∀ {g : Sel}, (∀ k, k ≠ g → t.fifo k = s.fifo k) → (t.fifo g).cnt ≤ (s.fifo g).cnt →
      (t.fifo f).cnt ≤ (s.fifo f).cnt := fun {g} hother hown =>
    if hg : f = g then hg ▸ hown else (hother f hg).symm ▸ le_rfl
  cases hpc : (s.ctx w).pc <;> simp only [hpc] at hf
  case s5 | d2 | g2 => exact byFifo hf.2.2 (by rw [hf.1]; exact Nat.sub_le _ _)
  case p1 | c1 => exact byFifo hf.2 (by rw [hf.1])
  case c2 => exact byFifo hf.2 (by rw [hf.1]; exact Nat.zero_le _)
  case p2 => exact (hf.2.2 f (h hpc).symm).symm ▸ le_rfl
  all_goals exact (hf f).symm ▸ le_rfl

theorem State.fifoOverflow_mem_readSlot (s : State) (w : Who) (g : Sel) :
    Marker.fifoOverflow f ∈ (s.readSlot w g).markers ↔ Marker.fifoOverflow f ∈ s.markers := by
  unfold State.readSlot
  split <;> simp [State.mem_markers_mark]

theorem State.fifoOverflow_mem_writeData (s : State) (a : Agent) (v : Byte) :
    Marker.fifoOverflow f ∈ (s.writeData a v).markers ↔ Marker.fifoOverflow f ∈ s.markers := by
  unfold State.writeData
  split
  · simp
  · split <;> simp [State.mem_markers_mark]

theorem State.fifoOverflow_mem_advanceGet {g : Sel} (e : s.advanceGet g = .next t) :
    Marker.fifoOverflow f ∈ t.markers ↔ Marker.fifoOverflow f ∈ s.markers := by
  rcases State.advanceGet_next e with ⟨-, rfl⟩ | ⟨-, -, rfl⟩ <;> simp [State.mem_markers_mark]

theorem State.fifoOverflow_mem_advancePut {g : Sel} (h : (s.fifo g).cnt = s.cap g → g ≠ f) :
    Marker.fifoOverflow f ∈ (s.advancePut g).markers ↔ Marker.fifoOverflow f ∈ s.markers := by
  unfold State.advancePut
  split
  next hc => simp [State.mem_markers_mark, (h hc).symm]
  next => simp

/-- Only FPUT's P2 on `f`, with `CAP_F` elements unread, records FIFO_OVERFLOW (R105, R109). -/
theorem act_fifoOverflow (e : act w s = .next t)
    (h : (s.ctx w).pc = .p2 → (s.ctx w).sel = f → (s.fifo f).cnt ≠ s.cap f) :
    Marker.fifoOverflow f ∈ t.markers ↔ Marker.fifoOverflow f ∈ s.markers := by
  have hadv : ∀ {g : Sel} {k : State → State}, (∀ u, (k u).markers = u.markers) → actAdvance g k s = .next t →
      (Marker.fifoOverflow f ∈ t.markers ↔ Marker.fifoOverflow f ∈ s.markers) := by
    intro g k hk ha
    obtain ⟨u, hu, rfl⟩ := actAdvance_next ha
    rw [hk]
    exact State.fifoOverflow_mem_advanceGet hu
  cases hpc : (s.ctx w).pc <;> simp only [act, hpc] at e
  case s5 => exact hadv (by simp) e
  case d2 => exact hadv (by simp [finishRead]) e
  case g2 => exact hadv (by simp) e
  all_goals obtain rfl := Host.Outcome.next.inj e
  case p2 =>
    rw [State.ret_markers]
    exact State.fifoOverflow_mem_advancePut fun hc hsel => h hpc hsel (hsel ▸ hc)
  case s4 | d1 | g1 => simp [State.fifoOverflow_mem_readSlot]
  case s6 | t3 => simp [State.fifoOverflow_mem_writeData]
  case w1 => unfold actW1; split <;> simp [State.mem_markers_mark]
  case x2 => simp [actX2, State.mem_markers_mark]
  all_goals simp [actW3, actS1, actS2, actS3, actT1, actX1, apply_ite State.markers]

/-! ### FPUT on the outbound FIFO inside WRITE -/

/-- A call comes back to no phase of FPUT (R142). -/
theorem putting_ret {v : Who} {c : Ctx} (h : ctxLegal v c = true) (hp : comesBack c.pc = true) :
    putting f { c with pc := c.ret } = false := by
  have hret := ctxLegal_comesBack h hp
  cases v with
  | fg => rcases hret with hr | hr | hr <;> simp [putting, hr]
  | txi => cases hr : c.ret <;> simp [txiOwn, putting, hr] at hret ⊢
  | rxi => cases hr : c.ret <;> simp [rxiOwn, putting, hr] at hret ⊢
  | call => simp [putting, show c.ret = .idle from hret]

/-- A context comes into an FPUT on TX only by WRITE's W4 (R132), and stays in it by P1 only (R105). -/
theorem putting_act {v : Who} (e : act w s = .next t) (hl : ctxLegal v (s.ctx w) = true)
    (h : putting .tx (t.ctx w) = true) :
    ((s.ctx w).pc = .w4 ∧ (t.ctx w).ret = .w5) ∨ (putting .tx (s.ctx w) = true ∧ (t.ctx w).ret = (s.ctx w).ret) := by
  have hc := act_ctx e
  have back : t.ctx w = { s.ctx w with pc := (s.ctx w).ret } → comesBack (s.ctx w).pc = true → False :=
    fun hb hp => by simp [hb, putting_ret hl hp] at h
  cases hpc : (s.ctx w).pc <;> simp only [hpc] at hc
  case idle => exact .inr ⟨hc ▸ h, hc ▸ rfl⟩
  case w4 => exact .inl ⟨rfl, by rw [hc]⟩
  case p1 => exact .inr ⟨by simpa [putting, hpc, hc] using h, by rw [hc]⟩
  case s7 | p2 | g2 => exact (back hc (by rw [hpc]; rfl)).elim
  case s1 | s2 =>
    rcases hc with hc | hc
    · simp [hc, putting] at h
    · exact (back hc (by rw [hpc]; rfl)).elim
  case c1 | c2 =>
    have hr : (s.ctx w).ret = .c1 ∨ (s.ctx w).ret = .c2 ∨ (s.ctx w).ret = .idle := by
      cases v <;> simp [ctxLegal, commandCtxLegal, txiLegal, rxiLegal, hpc] at hl <;> tauto
    rcases hr with hr | hr | hr <;> simp [hc, hr, putting] at h
  case w1 | w3 | s3 | t1 | x1 => rcases hc with hc | hc <;> simp [hc, putting] at h
  all_goals simp [hc, putting] at h

/-- WRITE has come past its watermark test, or past the drain-wait, and has not advanced put yet (R132). -/
def filling (c : Ctx) : Prop := c.pc = .w4 ∨ putting .tx c = true

/-- WRITE comes to W4 from below the watermark only, at W1, or at occupancy 0, at W3 (R132). -/
theorem act_toW4 (e : act w s = .next t) (hl : ctxLegal .fg (s.ctx w) = true) (hcap : 0 < s.cap .tx)
    (h : (t.ctx w).pc = .w4) : (s.ctx w).pc = .w4 ∨ 8 * s.occ .tx < 7 * s.cap .tx := by
  have hc := act_ctx e
  have back : t.ctx w = { s.ctx w with pc := (s.ctx w).ret } → comesBack (s.ctx w).pc = true → False := fun hb hp => by
    have hr : (s.ctx w).ret = .w4 := by simpa [hb] using h
    simpa [hr] using ctxLegal_comesBack hl hp
  cases hpc : (s.ctx w).pc <;> simp only [hpc] at hc
  case w4 => exact .inl rfl
  case w1 =>
    simp only [act, hpc, actW1] at e
    split at e <;> obtain rfl := Host.Outcome.next.inj e
    · simp at h
    next hw => exact .inr (by simpa [State.watermark] using hw)
  case w3 =>
    simp only [act, hpc, actW3] at e
    split at e <;> obtain rfl := Host.Outcome.next.inj e
    next h0 => exact .inr (by omega)
    next => simp at h
  case idle => simp [hc, hpc] at h
  case s7 | p2 | g2 => exact (back hc (by rw [hpc]; rfl)).elim
  case s1 | s2 =>
    rcases hc with hc | hc
    · simp [hc] at h
    · exact (back hc (by rw [hpc]; rfl)).elim
  case c1 | c2 => simp_all [ctxLegal, commandCtxLegal]
  case s3 | t1 | x1 => rcases hc with hc | hc <;> simp [hc] at h
  all_goals simp [hc] at h

/-- WRITE comes into the phases from W4 to P2 from below the watermark only (R131, R132). -/
theorem filling_act (e : act w s = .next t) (hl : ctxLegal .fg (s.ctx w) = true) (hcap : 0 < s.cap .tx)
    (h : filling (t.ctx w)) : filling (s.ctx w) ∨ 8 * s.occ .tx < 7 * s.cap .tx := by
  rcases h with h | h
  · exact (act_toW4 e hl hcap h).imp_left .inl
  · rcases putting_act e hl h with ⟨hpc, -⟩ | ⟨hp, -⟩
    · exact .inl (.inl hpc)
    · exact .inl (.inr hp)

/-! ### The guarantee -/

/-- The bound of R141 with its way out: an empty get of TX is recorded, or the true count is at most
`ceil(7 * CAP_TX / 8)`, below the watermark from W4 to P2, and there was no overflow. -/
def State.txBounded (s : State) : Prop :=
  Marker.emptyGet .tx ∈ s.markers ∨
    (s.tx.cnt ≤ (7 * s.cap .tx + 7) / 8 ∧ (filling s.fg → 8 * s.tx.cnt < 7 * s.cap .tx) ∧
      Marker.fifoOverflow .tx ∉ s.markers)

/-- What every step keeps of the guarantee's state, an empty get recorded or not (R141). -/
structure State.TxInv (s : State) : Prop where
  count : s.CountInv .tx
  avoids : s.neverIssues isTxFill = true
  cap : 8 ≤ s.cap .tx
  putting : ∀ w, putting .tx (s.ctx w) = true → w = .fg ∧ (s.ctx w).ret = .w5
  bounded : s.txBounded

theorem wordAvoids_mono {p q : Instr → Bool} (h : ∀ i, p i = false → q i = false) {x : Word16}
    (hx : wordAvoids p x = true) : wordAvoids q x = true := by
  unfold wordAvoids at hx ⊢
  split
  next i hd => simpa using h i (by simpa [hd] using hx)
  next => rfl

theorem State.neverIssues_mono {p q : Instr → Bool} (h : ∀ i, p i = false → q i = false)
    (hs : s.neverIssues p = true) : s.neverIssues q = true := by
  have hturn : ∀ u, turnAvoids p u = true → turnAvoids q u = true := fun u hu => by
    cases u with
    | handlerCommand x n => exact wordAvoids_mono h hu
    | foreground | handler | interrupt | peripheral | boot => rfl
  simp only [State.neverIssues, Bool.and_eq_true, List.all_eq_true] at hs ⊢
  exact ⟨fun x hx => wordAvoids_mono h (hs.1 x hx), fun u hu => hturn u (hs.2 u hu)⟩

theorem Enters.mono {p q : Instr → Bool} (h : ∀ i, p i = false → q i = false) {c : Ctx} (he : Enters p s w c) :
    Enters q s w c := by
  cases he with
  | handler src ha => exact .handler src ha
  | resume hr => exact .resume hr
  | command i hp hi hw => exact .command i (h i hp) hi hw

/-- R141 excludes FCLR on TX with FPUT on TX (R62). -/
theorem isClearOf_of_isTxFill (i : Instr) (h : isTxFill i = false) : isClearOf .tx i = false := by
  cases i with
  | fclr g => cases g <;> simp [isTxFill, isClearOf] at h ⊢
  | _ => rfl

/-- No context is entered inside an FPUT on TX or at W4 (R61, R141). -/
theorem Enters.not_filling {c : Ctx} (h : Enters isTxFill s w c) : ¬filling c := by
  cases h with
  | handler src => cases src <;> simp [filling, Machine.putting, firstPhase]
  | resume => simp [filling, Machine.putting]
  | command i hp hi =>
    cases i with
    | fput g v => cases g <;> simp [isTxFill, entryOf, filling, Machine.putting] at hp ⊢
    | fclr g =>
      simp only [entryOf, enterClear]
      split <;> simp [filling, Machine.putting]
    | _ => simp [entryOf, filling, Machine.putting, hi]

/-- The invariant keeps the handlers out of an FPUT on TX (R161, R162). -/
theorem putting_handler {c : Ctx} (hw : w = .txi ∨ w = .rxi) (h : ctxLegal w c = true) : putting .tx c = false := by
  rcases hw with rfl | rfl <;> cases hpc : c.pc <;> simp_all [ctxLegal, txiLegal, rxiLegal, Machine.putting]

/-- WRITE's W4 stands in the foreground only (R27, R28). -/
theorem eq_fg_of_w4 {c : Ctx} (h : ctxLegal w c = true) (hpc : c.pc = .w4) : w = .fg := by
  cases w <;> simp [ctxLegal, commandCtxLegal, txiLegal, rxiLegal, hpc] at h ⊢

/-- From capacity 8 on, `ceil(7 * CAP_TX / 8)` is below the capacity (R131, R141). -/
theorem threshold_lt {c : Nat} (h : 8 ≤ c) : (7 * c + 7) / 8 < c := by omega

/-- Within the bound the occupancy is the true count (R35, R141). -/
theorem State.TxInv.occ (hs : s.TxInv) (hcnt : s.tx.cnt ≤ (7 * s.cap .tx + 7) / 8)
    (hover : Marker.fifoOverflow .tx ∉ s.markers) : Marker.emptyGet .tx ∈ s.markers ∨ s.occ .tx = s.tx.cnt := by
  rcases hs.count.count with h | h | h
  · exact absurd h hover
  · exact .inl h
  · exact .inr (h.trans (Nat.mod_eq_of_lt (hcnt.trans_lt (threshold_lt hs.cap))))

/-- FPUT's P2 on TX is WRITE's, from below the watermark, so it neither overflows nor comes past the bound. -/
theorem State.TxInv.bounded_put (hs : s.TxInv) (e : act w s = .next t) (hpc : (s.ctx w).pc = .p2)
    (hsel : (s.ctx w).sel = .tx) (hbelow : filling s.fg → 8 * s.tx.cnt < 7 * s.cap .tx)
    (hover : Marker.fifoOverflow .tx ∉ s.markers) : t.txBounded := by
  have hput : Machine.putting .tx (s.ctx w) = true := by simp [Machine.putting, hpc, hsel]
  obtain ⟨rfl, hret⟩ := hs.putting w hput
  have hcnt := hbelow (.inr hput)
  have hroom : (s.fifo .tx).cnt ≠ s.cap .tx := by
    intro hc
    rw [State.fifo_tx] at hc
    omega
  have hcap : t.cap .tx = s.cap .tx := congrArg (Cfg.cap · .tx) (act_fixed e).1
  have hf := act_fifo e
  have hc := act_ctx e
  simp only [hpc, hsel, hret, if_neg hroom] at hf hc
  have htx : t.tx.cnt = s.tx.cnt + 1 := congrArg Fifo.cnt hf.1
  have hfg : t.fg.pc = .w5 := congrArg Ctx.pc hc
  refine .inr ⟨by rw [htx, hcap]; omega, fun h => by simp [filling, Machine.putting, hfg] at h, ?_⟩
  rwa [act_fifoOverflow e fun _ _ => hroom]

/-- Any other action leaves the count within its bound, and leads WRITE to W4 from below the watermark only. -/
theorem State.TxInv.bounded_other (hs : s.TxInv) (e : act w s = .next t)
    (h : (s.ctx w).pc = .p2 → (s.ctx w).sel ≠ .tx) (hle : s.tx.cnt ≤ (7 * s.cap .tx + 7) / 8)
    (hbelow : filling s.fg → 8 * s.tx.cnt < 7 * s.cap .tx) (hover : Marker.fifoOverflow .tx ∉ s.markers) :
    t.txBounded := by
  obtain ⟨-, -, hl, -⟩ := State.inv_iff.1 hs.count.inv
  have hcap : t.cap .tx = s.cap .tx := congrArg (Cfg.cap · .tx) (act_fixed e).1
  have hcnt : t.tx.cnt ≤ s.tx.cnt := act_cnt_le e h
  rcases hs.occ hle hover with hempty | hocc
  · exact .inl (act_mem_markers e hempty)
  refine .inr ⟨hcap ▸ hcnt.trans hle, fun ht => ?_, ?_⟩
  · have hfill : filling s.fg ∨ 8 * s.occ .tx < 7 * s.cap .tx := by
      by_cases hw : w = .fg
      · subst hw
        exact filling_act e (hl .fg) (by have := hs.cap; omega) ht
      · have hfg : t.fg = s.fg := act_other (Ne.symm hw) e
        exact .inl (hfg ▸ ht)
    rw [hcap]
    rcases hfill with hfill | hfill
    · have := hbelow hfill
      omega
    · omega
  · rwa [act_fifoOverflow e fun hpc hsel => absurd hsel (h hpc)]

theorem State.TxInv.act (hs : s.TxInv) (hm : s.mayMove w) (e : act w s = .next t) : t.TxInv where
  count := State.countInv_act hs.count hm e
  avoids := by
    obtain ⟨-, -, -, hcmds, hturns, -⟩ := act_fixed e
    exact State.neverIssues_of_suffix hs.avoids (hcmds ▸ List.suffix_rfl) (hturns ▸ List.suffix_rfl)
  cap := by
    obtain ⟨hcfg, -⟩ := act_fixed e
    have hcap : t.cap .tx = s.cap .tx := congrArg (Cfg.cap · .tx) hcfg
    exact hcap ▸ hs.cap
  putting u hu := by
    obtain ⟨-, -, hl, -⟩ := State.inv_iff.1 hs.count.inv
    by_cases huw : u = w
    · subst huw
      rcases putting_act e (hl u) hu with ⟨hpc, hret⟩ | ⟨hp, hret⟩
      · exact ⟨eq_fg_of_w4 (hl u) hpc, hret⟩
      · exact ⟨(hs.putting u hp).1, hret.trans (hs.putting u hp).2⟩
    · rw [act_other huw e] at hu ⊢
      exact hs.putting u hu
  bounded := by
    rcases hs.bounded with hempty | ⟨hle, hbelow, hover⟩
    · exact .inl (act_mem_markers e hempty)
    by_cases h : (s.ctx w).pc = .p2 ∧ (s.ctx w).sel = .tx
    · exact hs.bounded_put e h.1 h.2 hbelow hover
    · exact hs.bounded_other e (not_and.1 h) hle hbelow hover

theorem State.TxInv.quiet (hs : s.TxInv) (h : Quiet s t) : t.TxInv where
  count := State.countInv_quiet hs.count h
  avoids := State.neverIssues_of_suffix hs.avoids h.cmds h.turns
  cap := (h.cap .tx).symm ▸ hs.cap
  putting w := h.ctx w ▸ hs.putting w
  bounded := by
    have hempty := h.markers (.emptyGet .tx) (by decide)
    have hover := h.markers (.fifoOverflow .tx) (by decide)
    have htx : t.tx = s.tx := h.fifo .tx
    have hfg : t.fg = s.fg := h.ctx .fg
    simpa only [State.txBounded, hempty, hover, htx, hfg, h.cap] using hs.bounded

theorem State.TxInv.enter {c : Ctx} (hs : s.TxInv) (h : Enters isTxFill s w c) : (s.setCtx w c).TxInv where
  count := State.countInv_enter hs.count (h.mono isClearOf_of_isTxFill)
  avoids := State.neverIssues_of_suffix hs.avoids (by simp) (by simp)
  cap := by simpa using hs.cap
  putting u hu := by
    by_cases huw : u = w
    · subst huw
      rw [State.ctx_setCtx_same] at hu
      exact absurd (.inr hu) h.not_filling
    · rw [State.ctx_setCtx_other s c huw] at hu ⊢
      exact hs.putting u hu
  bounded := by
    have hfill : filling (s.setCtx w c).fg → filling s.fg := fun hf => by
      by_cases hw : w = .fg
      · subst hw
        exact absurd hf h.not_filling
      · have hfg : (s.setCtx w c).fg = s.fg := State.ctx_setCtx_other s c (Ne.symm hw)
        exact hfg ▸ hf
    rcases hs.bounded with hempty | ⟨hle, hbelow, hover⟩
    · exact .inl (by simpa using hempty)
    · exact .inr ⟨by simpa using hle, fun hf => by simpa using hbelow (hfill hf), by simpa using hover⟩

theorem txInv_keptByParts : KeptByParts isTxFill State.TxInv where
  inv hs := hs.count.inv
  avoids := State.TxInv.avoids
  quiet := State.TxInv.quiet
  enter := State.TxInv.enter
  act := State.TxInv.act
  boot hs := (bootAct_of_done hs.count.boot).symm ▸ hs

theorem State.txInv_of_txGuard (h : s.TxGuard) : s.TxInv := by
  obtain ⟨hinv, hcap, hb, hav, hcfg, hccall, hpcall, hpfg, hocc, hle, hbelow, hover⟩ := h
  obtain ⟨-, -, hl, -⟩ := State.inv_iff.1 hinv
  have hlaw : s.occ .tx = s.tx.cnt % s.cap .tx := by
    rw [hocc, Nat.mod_eq_of_lt (hle.trans_lt (threshold_lt hcap))]
  refine ⟨State.countInv_of_countLaw ⟨hinv, hb, State.neverIssues_mono isClearOf_of_isTxFill hav, hcfg, hccall, hlaw⟩,
    hav, hcap, fun w hp => ?_, .inr ⟨hle, hbelow, hover⟩⟩
  cases w with
  | fg => exact ⟨rfl, hpfg hp⟩
  | txi => exact absurd hp (Bool.eq_false_iff.1 (putting_handler (.inl rfl) (hl .txi)))
  | rxi => exact absurd hp (Bool.eq_false_iff.1 (putting_handler (.inr rfl) (hl .rxi)))
  | call => exact absurd hp (Bool.eq_false_iff.1 hpcall)

theorem State.TxInv.emptyGet_or_txGuard (hs : s.TxInv) : Marker.emptyGet .tx ∈ s.markers ∨ s.TxGuard := by
  rcases hs.bounded with hempty | ⟨hle, hbelow, hover⟩
  · exact .inl hempty
  have hcall : Machine.putting .tx s.call = false :=
    Bool.eq_false_iff.2 fun hp => by simpa using (hs.putting .call hp).1
  exact (hs.occ hle hover).imp_right fun hocc =>
    ⟨hs.count.inv, hs.cap, hs.count.boot, hs.avoids, hs.count.clearing .fg, hs.count.clearing .call, hcall,
      fun hp => (hs.putting .fg hp).2, hocc, hle, hbelow, hover⟩

/-- Settles O51: the guarantee, its way out included, is kept by every part of a step. -/
theorem watermarkPreventsOutboundOverflow : Obligations.WatermarkPreventsOutboundOverflow := by
  unfold Obligations.WatermarkPreventsOutboundOverflow
  exact fun s t hs e => (txInv_keptByParts.step rfl rfl (State.txInv_of_txGuard hs) e).emptyGet_or_txGuard

end Sys2Proof.Machine
end

section
/-! The watermark's threshold (R131). -/

namespace Sys2Proof.Machine

theorem State.watermark_iff {s : State} : s.watermark = true ↔ 8 * s.occ .tx ≥ 7 * s.cap .tx :=
  decide_eq_true_iff

/-- Settles O26: the comparison by its definition, its rounding, and an occupancy below the capacity. -/
theorem watermarkThreshold : Obligations.WatermarkThreshold := by
  unfold Obligations.WatermarkThreshold
  intro s hs
  obtain ⟨-, hf, -, -⟩ := State.inv_iff.1 hs
  refine ⟨State.watermark_iff, ?_, fun hcap => ?_⟩
  · rw [State.watermark_iff]
    omega
  · have hlt : s.occ .tx < s.cap .tx := occOf_lt (Nat.zero_lt_of_lt (hf .tx).1) s.tx
    rw [Bool.eq_false_iff, Ne, State.watermark_iff]
    omega

end Sys2Proof.Machine
end

section
/-! RESUME from S1 in any context, whatever phase it comes back to: no data or no stall, the kick, and the hold at S3
(R133, R138, R139). -/

namespace Sys2Proof.Machine

variable {stop : Phase} {w : Who} {s t u : State} {f : Sel} {v : Byte}

theorem runTo_resume_active (hstop : stop ∉ resumePhases) (hpc : (s.ctx w).pc = .s1) (hst : s.stalled = false) (n : Nat) :
    runTo stop w (n + 1) s = runTo stop w n (s.ret w) := by
  have h1 : .s1 ≠ stop := fun h => hstop (h ▸ by decide)
  exact runTo_of_act (by rwa [hpc]) (by simp [act, hpc, actS1, hst]) n

theorem runTo_resume_empty (hstop : stop ∉ resumePhases) (hpc : (s.ctx w).pc = .s1) (hst : s.stalled = true)
    (hocc : s.occ .tx = 0) (n : Nat) : runTo stop w (n + 2) s = runTo stop w n (s.ret w) := by
  have h1 : .s1 ≠ stop := fun h => hstop (h ▸ by decide)
  have h2 : .s2 ≠ stop := fun h => hstop (h ▸ by decide)
  have hret : (s.goto w .s2).ret w = s.ret w := by simp [State.ret, State.goto]
  rw [runTo_of_act (t := s.goto w .s2) (by rwa [hpc]) (by simp [act, hpc, actS1, hst]),
    runTo_of_act (t := s.ret w) (by simpa) (by simp [act, actS2, hocc, hret])]

/-- RESUME with nothing to do comes back to its caller (R139). -/
theorem runTo_resume_noop (hstop : stop ∉ resumePhases) (hpc : (s.ctx w).pc = .s1) (hret : (s.ctx w).ret = stop) {n : Nat}
    (h : 1 ≤ n ∧ s.stalled = false ∨ 2 ≤ n ∧ s.occ .tx = 0) : runTo stop w n s = .next (s.ret w) := by
  have hend : ∀ m, runTo stop w m (s.ret w) = .next (s.ret w) := runTo_stop (by simpa using hret)
  cases hst : s.stalled with
  | false =>
    obtain ⟨m, rfl⟩ := Nat.exists_eq_add_of_le' (show 1 ≤ n by omega)
    rw [runTo_resume_active hstop hpc hst, hend]
  | true =>
    obtain ⟨hn, hocc⟩ := h.resolve_left (by simp [hst])
    obtain ⟨m, rfl⟩ := Nat.exists_eq_add_of_le' hn
    rw [runTo_resume_empty hstop hpc hst hocc, hend]

/-! ### The kick -/

/-- The markers after the dequeue's second action (R111). -/
theorem State.advanceGet_markers (e : s.advanceGet f = .next t) :
    t.markers =
      if (s.fifo f).cnt = 0 ∧ Marker.emptyGet f ∉ s.markers then s.markers ++ [.emptyGet f] else s.markers := by
  rcases State.advanceGet_next e with ⟨h0, rfl⟩ | ⟨h0, -, rfl⟩
  · simp [h0]
  · simp [h0, State.mark_eq_markers]

/-- The reference peripheral takes a data write into its empty register, so no overrun is recorded (R184, R191). -/
theorem State.writeData_of_txEmpty (h : s.cfg.env = .reference → s.per.txEmpty = true) (a : Agent) (v : Byte) :
    (s.writeData a v).markers = s.markers ∧
    (s.cfg.env = .reference → (s.writeData a v).per = { s.per with txLog := s.per.txLog ++ [v], txEmpty := false }) := by
  unfold State.writeData
  split
  next henv => simp [henv]
  next henv => simp [h henv]

/-- The reference peripheral answers by its register (R186, R191). -/
theorem State.txEmpty_of_txEmptyAnswer (h : s.txEmptyAnswer = true) (henv : s.cfg.env = .reference) :
    s.per.txEmpty = true := by
  simpa [State.txEmptyAnswer, henv] using h

/-- What RESUME's kick by context `w` leaves: the byte `v` taken from TX, kept in the context and sent, the flag cleared, and
the context back at its caller (R133, R111, R205). -/
structure Kicked (w : Who) (v : Byte) (s t : State) : Prop where
  cfg : t.cfg = s.cfg
  ctx : t.ctx w = { s.ctx w with pc := (s.ctx w).ret, v := v }
  other : ∀ x, x ≠ w → t.ctx x = s.ctx x
  tx : t.tx = { s.tx with get := inc s.cfg.modeTx s.cfg.capTx s.tx.get, cnt := s.tx.cnt - 1 }
  rx : t.rx = s.rx
  stalled : t.stalled = false
  markers : t.markers =
    if s.tx.cnt = 0 ∧ Marker.emptyGet .tx ∉ s.markers then s.markers ++ [.emptyGet .tx] else s.markers
  trace : t.trace = s.trace ++ [.called (s.agentOf w) (.isTransmitRegisterEmpty true),
    .called (s.agentOf w) (.writeDataRegister v)]
  per : s.cfg.env = .reference → t.per = { s.per with txLog := s.per.txLog ++ [v], txEmpty := false }

theorem exists_kicked (hstop : stop ∉ resumePhases) (hpc : (s.ctx w).pc = .s1) (hst : s.stalled = true)
    (hocc : 0 < s.occ .tx) (hans : s.txEmptyAnswer = true) (hm : memRead s.tx.store s.tx.get.toNat = some v)
    (hcnt : s.tx.cnt = 0 → s.cfg.emptyGet = .stale) (n : Nat) :
    ∃ t, runTo stop w (n + 7) s = runTo stop w n t ∧ Kicked w v s t := by
  have hread : (((s.goto w .s3).pollTxEmpty (s.agentOf w)).goto w .s4).readSlot w .tx =
      (((s.goto w .s3).pollTxEmpty (s.agentOf w)).goto w .s4).setCtx w { s.ctx w with pc := .s4, v := v } := by
    rw [State.readSlot_of_written (v := v) (by simpa using hm)]
    simp
  obtain ⟨u, hu⟩ := State.exists_get (f := .tx) (s := ((s.goto w .s3).pollTxEmpty (s.agentOf w)).goto w .s4)
    (by simpa using hcnt) w .s5
  have e := runTo_kick hstop hpc hst hocc hans hu n
  rw [hread] at hu
  obtain ⟨hcfg, -, -, -, hper, -, -, -, htrace, -⟩ := State.advanceGet_frame hu
  obtain ⟨htx, -, hrx⟩ := State.advanceGet_dequeued hu
  have hctx := State.advanceGet_ctx hu
  have hmarkers := State.advanceGet_markers hu
  have hrx' := hrx .rx (by decide)
  have hw : u.ctx w = { s.ctx w with pc := .s5, v := v } := by simpa using hctx w
  have hagent : u.agentOf w = s.agentOf w := by simpa using State.agentOf_congr hctx w
  simp only [State.goto_cfg, State.setCtx_cfg, State.pollTxEmpty_cfg] at hcfg
  simp only [State.goto_per, State.setCtx_per, State.pollTxEmpty_per] at hper
  have hempty : u.cfg.env = .reference → u.per.txEmpty = true := by
    rw [hcfg, hper]
    exact State.txEmpty_of_txEmptyAnswer hans
  obtain ⟨hwm, hwper⟩ := State.writeData_of_txEmpty (s := u.goto w .s6) (by simpa using hempty) (u.agentOf w) (u.ctx w).v
  refine ⟨_, e, ?_⟩
  exact
    { cfg := by simpa using hcfg
      ctx := by simp [hw]
      other := fun x hx => by
        have hux : u.ctx x = s.ctx x := by simpa [State.goto_other hx, State.ctx_setCtx_other _ _ hx] using hctx x
        simp [State.ret_other hx, State.goto_other hx, hux]
      tx := by simpa [State.mode, Cfg.mode] using htx
      rx := by simpa using hrx'
      stalled := by simp
      markers := by simpa [hwm] using hmarkers
      trace := by simp [hw, hagent, htrace, hans]
      per := fun henv => by simpa [hw, hper] using hwper (by simpa [hcfg] using henv) }

/-! ### The hold -/

/-- Polls read the environment, the oracle's answers, the draws and the reference peripheral's register only. -/
theorem State.pollsFalse_congr (hcfg : t.cfg = s.cfg) (hper : t.per = s.per) (horacle : t.oracle = s.oracle)
    (hdraws : t.draws = s.draws) {n : Nat} (h : s.pollsFalse n) : t.pollsFalse n := fun i hi => by
  simpa only [State.pollAnswer, hcfg, hper, horacle, hdraws] using h i hi

theorem State.polled_eq (s : State) (n : Nat) :
    s.polled n = { s with oracle := (s.polled n).oracle, draws := (s.polled n).draws } := by
  unfold State.polled
  split <;> rfl

theorem State.polled_congr (hcfg : t.cfg = s.cfg) (horacle : t.oracle = s.oracle) (hdraws : t.draws = s.draws) (n : Nat) :
    (t.polled n).oracle = (s.polled n).oracle ∧ (t.polled n).draws = (s.polled n).draws := by
  unfold State.polled
  rw [hcfg]
  split <;> simp [horacle, hdraws]

/-- The state in which context `w` has come to S3 and made `n` polls that all answered false (R138, R190 a). -/
def State.heldAtS3 (s : State) (w : Who) (n : Nat) : State :=
  { s.goto w .s3 with
    oracle := (s.polled n).oracle
    draws := (s.polled n).draws
    trace := s.trace ++ List.replicate n (.called (s.agentOf w) (.isTransmitRegisterEmpty false)) }

/-- RESUME with data queued holds at S3 for as long as the register is not empty (R138). -/
theorem runTo_resume_hold (hstop : stop ∉ resumePhases) (hpc : (s.ctx w).pc = .s1) (hst : s.stalled = true)
    (hocc : 0 < s.occ .tx) {n : Nat} (hf : s.pollsFalse n) : runTo stop w (n + 2) s = .next (s.heldAtS3 w n) := by
  have h1 : .s1 ≠ stop := fun h => hstop (h ▸ by decide)
  have h2 : .s2 ≠ stop := fun h => hstop (h ▸ by decide)
  have h3 : stop ≠ .s3 := fun h => hstop (h ▸ by decide)
  obtain ⟨horacle, hdraws⟩ := State.polled_congr (s := s) (t := s.goto w .s3) (by simp) (by simp) (by simp) n
  rw [runTo_of_act (t := s.goto w .s2) (by rwa [hpc]) (by simp [act, hpc, actS1, hst]),
    runTo_of_act (t := s.goto w .s3) (by simpa) (by simp [act, actS2, hocc]),
    runTo_hold h3 n (by simp) (State.pollsFalse_congr (by simp) (by simp) (by simp) (by simp) hf), State.polled_eq,
    horacle, hdraws]
  simp [State.heldAtS3]

end Sys2Proof.Machine
end

section
/-! RESUME as a command, in the foreground and in handler context (R133, R138, R139; log 5). -/

namespace Sys2Proof.Machine

variable {s t : State} {v : Byte}

/-- The state right after the issue of RESUME in its running context (R61, R133). -/
def State.resumeIssued (s : State) : State :=
  (s.callResume s.resumer (s.ctx s.resumer).pc).emit (.issued (s.agentOf s.resumer) .resume)

@[simp] theorem State.resumeIssued_ctx (s : State) :
    s.resumeIssued.ctx s.resumer = { s.ctx s.resumer with pc := .s1, ret := (s.ctx s.resumer).pc } := by
  simp [State.resumeIssued]

theorem State.resumeIssued_other (s : State) {x : Who} (hx : x ≠ s.resumer) : s.resumeIssued.ctx x = s.ctx x := by
  simp [State.resumeIssued, State.callResume, State.ctx_setCtx_other _ _ hx]

@[simp] theorem State.resumeIssued_cfg (s : State) : s.resumeIssued.cfg = s.cfg := by simp [State.resumeIssued]
@[simp] theorem State.resumeIssued_tx (s : State) : s.resumeIssued.tx = s.tx := by simp [State.resumeIssued]
@[simp] theorem State.resumeIssued_rx (s : State) : s.resumeIssued.rx = s.rx := by simp [State.resumeIssued]
@[simp] theorem State.resumeIssued_stalled (s : State) : s.resumeIssued.stalled = s.stalled := by simp [State.resumeIssued]
@[simp] theorem State.resumeIssued_rxiSw (s : State) : s.resumeIssued.rxiSw = s.rxiSw := by simp [State.resumeIssued]
@[simp] theorem State.resumeIssued_per (s : State) : s.resumeIssued.per = s.per := by simp [State.resumeIssued]
@[simp] theorem State.resumeIssued_oracle (s : State) : s.resumeIssued.oracle = s.oracle := by simp [State.resumeIssued]
@[simp] theorem State.resumeIssued_draws (s : State) : s.resumeIssued.draws = s.draws := by simp [State.resumeIssued]
@[simp] theorem State.resumeIssued_markers (s : State) : s.resumeIssued.markers = s.markers := by simp [State.resumeIssued]
@[simp] theorem State.resumeIssued_trace (s : State) :
    s.resumeIssued.trace = s.trace ++ [.issued (s.agentOf s.resumer) .resume] := by
  simp [State.resumeIssued]
@[simp] theorem State.resumeIssued_occ (s : State) : s.resumeIssued.occ .tx = s.occ .tx := by simp [State.resumeIssued]
@[simp] theorem State.resumeIssued_txEmptyAnswer (s : State) : s.resumeIssued.txEmptyAnswer = s.txEmptyAnswer := by
  simp [State.txEmptyAnswer]
@[simp] theorem State.resumeIssued_agentOf (s : State) :
    s.resumeIssued.agentOf s.resumer = s.agentOf s.resumer := by
  simp [State.resumeIssued, State.callResume]

theorem State.canResume_of_ready (h : s.ready = true) : s.canResume = true ∧ s.resumer = .fg := by
  obtain ⟨hact, hpc⟩ := State.ready_iff.mp h
  simp [State.canResume, State.resumer, hact, hpc]

/-- What the command RESUME with everything there for a kick leaves, in the running context (R133). -/
structure ResumeKicked (v : Byte) (s t : State) : Prop where
  ctx : t.ctx s.resumer = { s.ctx s.resumer with v := v, ret := (s.ctx s.resumer).pc }
  other : ∀ x, x ≠ s.resumer → t.ctx x = s.ctx x
  tx : t.tx = { s.tx with get := inc s.cfg.modeTx s.cfg.capTx s.tx.get, cnt := s.tx.cnt - 1 }
  rx : t.rx = s.rx
  stalled : t.stalled = false
  markers : t.markers =
    if s.tx.cnt = 0 ∧ Marker.emptyGet .tx ∉ s.markers then s.markers ++ [.emptyGet .tx] else s.markers
  trace : t.trace = s.trace ++ [.issued (s.agentOf s.resumer) .resume,
    .called (s.agentOf s.resumer) (.isTransmitRegisterEmpty true), .called (s.agentOf s.resumer) (.writeDataRegister v)]
  per : s.cfg.env = .reference → t.per = { s.per with txLog := s.per.txLog ++ [v], txEmpty := false }

theorem Kicked.resumeKicked (h : Kicked s.resumer v s.resumeIssued t) : ResumeKicked v s t where
  ctx := by simpa using h.ctx
  other x hx := (h.other x hx).trans (State.resumeIssued_other s hx)
  tx := by simpa using h.tx
  rx := by simpa using h.rx
  stalled := h.stalled
  markers := by simpa using h.markers
  trace := by simpa using h.trace
  per := by simpa using h.per

/-- RESUME's kick in either context, to its end. -/
theorem exec_resume_kicks (hcan : s.canResume = true) (hg : 7 ≤ s.grant) (hst : s.stalled = true) (hocc : 0 < s.occ .tx)
    (hans : s.txEmptyAnswer = true) (hm : memRead s.tx.store s.tx.get.toNat = some v)
    (hcnt : s.tx.cnt = 0 → s.cfg.emptyGet = .stale) : ∃ t, exec .resume s = .next t ∧ ResumeKicked v s t := by
  obtain ⟨n, hn⟩ := Nat.exists_eq_add_of_le' hg
  obtain ⟨t, e, ht⟩ := exists_kicked (s := s.resumeIssued) (w := s.resumer) (v := v)
    (State.resumer_pc_of_canResume hcan) (by simp) (by simpa using hst) (by simpa using hocc) (by simpa using hans)
    (by simpa using hm) (by simpa using hcnt) n
  refine ⟨t, ?_, ht.resumeKicked⟩
  rw [exec_resume_of_canResume hcan, hn]
  exact e.trans (runTo_stop (by simp [ht.ctx]) n)

/-- Settles O46: the kick, with the foreground as its context. -/
theorem resumeKicks : Obligations.ResumeKicks := by
  unfold Obligations.ResumeKicks
  intro s v hr hg hst hocc hans hm hcnt
  obtain ⟨hcan, hw⟩ := State.canResume_of_ready hr
  obtain ⟨t, e, hctx, -, htx, hrx, hflag, hmarkers, htrace, hper⟩ := exec_resume_kicks hcan hg hst hocc hans hm hcnt
  rw [hw] at hctx htrace
  have hpc : t.fg.pc = s.fg.pc := by simpa using congrArg Ctx.pc hctx
  exact ⟨t, e, htx, hflag, hpc.trans (State.ready_iff.mp hr).2, hrx, hmarkers, htrace, hper⟩

/-- Settles O48: the kick, with the active handler as its context. -/
theorem resumeKicksInHandlerContext : Obligations.ResumeKicksInHandlerContext := by
  unfold Obligations.ResumeKicksInHandlerContext
  intro s v hact hcan hg hst hocc hans hm hcnt
  have hw : s.resumer = s.activeHandler := by simp [State.resumer, hact]
  obtain ⟨t, e, hctx, hother, htx, hrx, hflag, hmarkers, htrace, hper⟩ := exec_resume_kicks hcan hg hst hocc hans hm hcnt
  rw [hw] at hctx hother htrace
  exact ⟨t, e, hctx, hother, htx, hrx, hflag, hmarkers, htrace, hper⟩

/-- Settles O45: RESUME comes back at once; the issue's record and its return phase stay. -/
theorem resumeIsANoOpWhenActiveOrEmpty : Obligations.ResumeIsANoOpWhenActiveOrEmpty := by
  unfold Obligations.ResumeIsANoOpWhenActiveOrEmpty
  intro s hcan hg h
  have hnoop : 1 ≤ s.grant ∧ s.resumeIssued.stalled = false ∨ 2 ≤ s.grant ∧ s.resumeIssued.occ .tx = 0 :=
    h.imp (fun hst => ⟨by omega, by simpa using hst⟩) fun hocc => ⟨hg, by simpa using hocc⟩
  rw [exec_resume_of_canResume hcan]
  refine (runTo_resume_noop (State.resumer_pc_of_canResume hcan) (by simp) (by simp) hnoop).trans ?_
  unfold State.resumeIssued
  cases s.resumer <;> rfl

/-- Settles O47: S1 and S2, then only polls; the answer is the branch. -/
theorem resumeWaitsForTheEmptyRegister : Obligations.ResumeWaitsForTheEmptyRegister := by
  unfold Obligations.ResumeWaitsForTheEmptyRegister
  refine fun s => ⟨fun hcan hg hst hocc hf => ?_, fun w hpc => ?_⟩
  · obtain ⟨n, hn⟩ := Nat.exists_eq_add_of_le' (show 2 ≤ s.grant by omega)
    obtain ⟨horacle, hdraws⟩ := State.polled_congr (s := s) (t := s.resumeIssued) (by simp) (by simp) (by simp) n
    rw [hn, Nat.add_sub_cancel] at hf ⊢
    rw [exec_resume_of_canResume hcan, hn]
    refine (runTo_resume_hold (s := s.resumeIssued) (State.resumer_pc_of_canResume hcan) (by simp)
      (by simpa using hst) (by simpa using hocc)
      (State.pollsFalse_congr (by simp) (by simp) (by simp) (by simp) hf)).trans ?_
    rw [State.heldAtS3, horacle, hdraws, State.resumeIssued_agentOf]
    unfold State.resumeIssued
    cases s.resumer <;> simp [State.goto, State.callResume, State.setCtx, State.emit]
  · refine ⟨actS3 w s, by simp [act, hpc], ?_⟩
    unfold actS3
    split
    next ha => simp [ha]
    next ha => simp [ha]

/-- Settles O50: READ on a written slot leaves what its second action leaves, and with unread bytes that takes one. -/
theorem readDequeuesOneInboundByte : Obligations.ReadDequeuesOneInboundByte := by
  unfold Obligations.ReadDequeuesOneInboundByte
  intro s v hr hg h0 hm
  rw [exec_read_of_written hr hg hm (State.advanceGet_of_cnt_ne_zero (f := .rx) h0)]
  rfl

end Sys2Proof.Machine
end

section
/-! WRITE's last part, from W4 to its end (R132): the byte queued, then a RESUME that finds nothing to do, kicks, or holds. -/

namespace Sys2Proof.Machine

variable {s t : State} {v : Byte}

/-- The outbound FIFO after WRITE's FPUT of the latched byte (R105, R132). -/
def State.queuedTx (s : State) : Fifo :=
  { get := s.tx.get
    put := inc s.cfg.modeTx s.cfg.capTx s.tx.put
    store := memWrite s.tx.store s.tx.put.toNat s.fg.b
    cnt := if s.tx.cnt = s.cfg.capTx then s.cfg.capTx else s.tx.cnt + 1 }

/-- The state after WRITE's W4, its FPUT and W5: the byte queued, RESUME's S1 next (R105, R132). -/
def State.queued (s : State) : State :=
  { s with
    tx := s.queuedTx
    fg := { s.fg with pc := .s1, sel := .tx, ret := .idle }
    markers :=
      if s.tx.cnt = s.cfg.capTx ∧ Marker.fifoOverflow .tx ∉ s.markers
      then s.markers ++ [.fifoOverflow .tx] else s.markers }

theorem runCtx_queue (hpc : s.fg.pc = .w4) (n : Nat) : runCtx .fg (n + 4) s = runCtx .fg n s.queued := by
  have hlast : ((((s.callPut .fg .tx s.fg.b .w5).writeSlot .tx s.fg.b).goto .fg .p2).advancePut .tx |>.ret .fg
      |>.callResume .fg .idle) = s.queued := by
    rw [State.advancePut_eq]
    rfl
  unfold runCtx
  rw [runTo_of_act (t := s.callPut .fg .tx s.fg.b .w5) (by simp [hpc]) (by simp [act, hpc]),
    runTo_of_act (t := ((s.callPut .fg .tx s.fg.b .w5).writeSlot .tx s.fg.b).goto .fg .p2) (by simp [State.callPut])
      (by simp [act, State.callPut]),
    runTo_of_act (t := (((s.callPut .fg .tx s.fg.b .w5).writeSlot .tx s.fg.b).goto .fg .p2).advancePut .tx |>.ret .fg)
      (by simp [State.goto]) (by simp [act, State.goto, State.callPut]),
    runTo_of_act (t := s.queued) (by simp [State.ret, State.goto, State.callPut])
      (by rw [← hlast]; simp [act, State.ret, State.goto, State.callPut])]

/-- ACTIVE, or wrapped to occupancy 0 by the put, WRITE's last RESUME is a no-op (R139, R240). -/
theorem runCtx_w4_noop (hpc : s.fg.pc = .w4) {n : Nat}
    (h : 5 ≤ n ∧ s.stalled = false ∨ 6 ≤ n ∧ occOf s.cfg.capTx s.queuedTx = 0) :
    runCtx .fg n s = .next (s.queued.goto .fg .idle) := by
  obtain ⟨m, rfl⟩ := Nat.exists_eq_add_of_le' (show 4 ≤ n by omega)
  rw [runCtx_queue hpc]
  exact runTo_resume_noop (stop := .idle) (s := s.queued) (by decide) rfl rfl
    (h.imp (fun ⟨hn, hst⟩ => ⟨by omega, hst⟩) fun ⟨hn, hocc⟩ => ⟨by omega, hocc⟩)

/-- What WRITE leaves when its last RESUME kicks: a byte queued and the byte `v` sent (R132, R133). -/
structure QueuedAndKicked (v : Byte) (s t : State) : Prop where
  pc : t.fg.pc = .idle
  stalled : t.stalled = false
  rx : t.rx = s.rx
  tx : t.tx =
    { get := inc s.cfg.modeTx s.cfg.capTx s.tx.get
      put := inc s.cfg.modeTx s.cfg.capTx s.tx.put
      store := memWrite s.tx.store s.tx.put.toNat s.fg.b
      cnt := if s.tx.cnt = s.cfg.capTx then s.cfg.capTx - 1 else s.tx.cnt }
  markers : t.markers = s.queued.markers
  per : s.cfg.env = .reference → t.per = { s.per with txLog := s.per.txLog ++ [v], txEmpty := false }
  trace : t.trace = s.trace ++ [.called .fg (.isTransmitRegisterEmpty true), .called .fg (.writeDataRegister v)]

/-- The put leaves an element to take, so the kick records no empty get. -/
theorem Kicked.queuedAndKicked (h : Kicked .fg v s.queued t) (hcap : 0 < s.cfg.capTx) : QueuedAndKicked v s t := by
  have hcnt : s.queuedTx.cnt ≠ 0 := by
    unfold State.queuedTx
    dsimp only
    split <;> omega
  have htx := h.tx
  have hmarkers := h.markers
  exact
    { pc := congrArg Ctx.pc h.ctx
      stalled := h.stalled
      rx := h.rx
      tx := by
        rw [htx]
        simp only [State.queued, State.queuedTx, Fifo.mk.injEq, true_and]
        split <;> simp
      markers := by rw [hmarkers, if_neg fun h0 => hcnt h0.1]
      per := h.per
      trace := h.trace }

theorem exists_runCtx_w4_kick (hpc : s.fg.pc = .w4) (hcap : 0 < s.cfg.capTx) (hst : s.stalled = true)
    (hocc : 0 < occOf s.cfg.capTx s.queuedTx) (hans : s.txEmptyAnswer = true)
    (hm : memRead (memWrite s.tx.store s.tx.put.toNat s.fg.b) s.tx.get.toNat = some v) {n : Nat} (hn : 11 ≤ n) :
    ∃ t, runCtx .fg n s = .next t ∧ QueuedAndKicked v s t := by
  obtain ⟨m, rfl⟩ := Nat.exists_eq_add_of_le' hn
  have hcnt : s.queued.tx.cnt = 0 → s.queued.cfg.emptyGet = .stale := fun h0 => by
    simp only [State.queued, State.queuedTx] at h0
    split at h0 <;> omega
  obtain ⟨t, e, ht⟩ := exists_kicked (stop := .idle) (w := .fg) (s := s.queued) (by decide) rfl hst hocc hans hm hcnt m
  refine ⟨t, ?_, ht.queuedAndKicked hcap⟩
  rw [runCtx_queue (n := m + 7) hpc]
  exact e.trans (runTo_stop (by rw [ht.ctx]; rfl) m)

/-- With data queued and the register not empty, WRITE's last RESUME holds at S3 (R138). -/
theorem runCtx_w4_hold (hpc : s.fg.pc = .w4) (hst : s.stalled = true) (hocc : 0 < occOf s.cfg.capTx s.queuedTx) {n : Nat}
    (hf : s.pollsFalse n) : runCtx .fg (n + 6) s = .next (s.queued.heldAtS3 .fg n) := by
  rw [runCtx_queue (n := n + 2) hpc]
  exact runTo_resume_hold (stop := .idle) (s := s.queued) (by decide) rfl hst hocc (State.pollsFalse_congr rfl rfl rfl rfl hf)

end Sys2Proof.Machine
end

section
/-! WRITE in the foreground at rest, below the watermark (R132). -/

namespace Sys2Proof.Machine

variable {s : State} {b : Byte}

/-- The state right after the issue of WRITE in the foreground: its byte latched, W1 next (R61, R132). -/
def State.writeIssued (s : State) (b : Byte) : State :=
  (s.setCtx .fg { s.fg with pc := .w1, b := b }).emit (.issued .fg (.write b))

@[simp] theorem State.writeIssued_fg (s : State) (b : Byte) :
    (s.writeIssued b).fg = { s.fg with pc := .w1, b := b } := rfl
@[simp] theorem State.writeIssued_watermark (s : State) (b : Byte) : (s.writeIssued b).watermark = s.watermark := rfl

theorem exec_write_of_ready (h : s.ready = true) (b : Byte) :
    exec (.write b) s = runCtx .fg s.grant (s.writeIssued b) := by
  have hact : ¬s.handlerActive = true := by simp [(State.ready_iff.mp h).1]
  exact (if_neg hact).trans (issue_of_ready h (.write b) fun c => { c with pc := .w1, b := b })

/-- WRITE has been issued and has passed its watermark test: W4 next (R132). -/
def State.belowTheWatermark (s : State) (b : Byte) : State :=
  { s with fg := { s.fg with pc := .w4, b := b }, trace := s.trace ++ [.issued .fg (.write b)] }

theorem exec_write_below (hr : s.ready = true) (hw : s.watermark = false) {n : Nat} (hn : s.grant = n + 1) :
    exec (.write b) s = runCtx .fg n (s.belowTheWatermark b) := by
  rw [exec_write_of_ready hr, hn]
  exact runTo_of_act (by simp) (by simp [act, actW1, hw]; rfl) n

/-- Settles O39: W1, the byte queued, and a RESUME with nothing to do. -/
theorem writeQueuesWithoutAKick : Obligations.WriteQueuesWithoutAKick := by
  unfold Obligations.WriteQueuesWithoutAKick
  intro s b hr hg hw h
  obtain ⟨n, hn⟩ := Nat.exists_eq_add_of_le' (show 1 ≤ s.grant by omega)
  rw [exec_write_below hr hw hn,
    runCtx_w4_noop (s := s.belowTheWatermark b) rfl (h.imp (fun hst => ⟨by omega, hst⟩) fun hocc => ⟨by omega, hocc⟩)]
  rfl

/-- Settles O40: W1, the byte queued, and a RESUME that kicks or holds. -/
theorem writeKicksAStalledTransmitter : Obligations.WriteKicksAStalledTransmitter := by
  unfold Obligations.WriteKicksAStalledTransmitter
  intro s b hr hw hcap hst hocc
  refine ⟨fun v hg hans hm => ?_, fun hg hf => ?_⟩
  · obtain ⟨n, hn⟩ := Nat.exists_eq_add_of_le' (show 1 ≤ s.grant by omega)
    obtain ⟨t, e, hpc, hflag, hrx, htx, hmarkers, hper, htrace⟩ :=
      exists_runCtx_w4_kick (s := s.belowTheWatermark b) rfl hcap hst hocc hans hm (show 11 ≤ n by omega)
    refine ⟨t, (exec_write_below hr hw hn).trans e, htx, hflag, hpc, hrx, hmarkers, ?_, hper⟩
    simpa [State.belowTheWatermark] using htrace
  · obtain ⟨n, hn⟩ := Nat.exists_eq_add_of_le' (show 7 ≤ s.grant by omega)
    rw [hn, Nat.add_sub_cancel] at hf ⊢
    have e := runCtx_w4_hold (s := s.belowTheWatermark b) rfl hst hocc (State.pollsFalse_congr rfl rfl rfl rfl hf)
    obtain ⟨horacle, hdraws⟩ := State.polled_congr (s := s) (t := (s.belowTheWatermark b).queued) rfl rfl rfl n
    refine ⟨_, (exec_write_below hr hw (n := n + 6) hn).trans e, rfl, hst, rfl, rfl, rfl, rfl, rfl, horacle, hdraws, ?_⟩
    simp [State.heldAtS3, State.queued, State.belowTheWatermark]

end Sys2Proof.Machine
end

section
/-! The drain-wait (R132, R242): W3 holds while the occupancy is not 0, and then WRITE goes on as from below the watermark. -/

namespace Sys2Proof.Machine

variable {s t : State} {b v : Byte}

theorem State.goto_of_pc {w : Who} {p : Phase} (h : (s.ctx w).pc = p) : s.goto w p = s := by
  subst h
  cases w <;> rfl

/-- W3 with elements queued is left by no action (R132, R138). -/
theorem runCtx_drainWait (hpc : s.fg.pc = .w3) (hocc : s.occ .tx ≠ 0) (n : Nat) : runCtx .fg n s = .next s := by
  have hact : act .fg s = .next s := by simp [act, hpc, actW3, hocc, State.goto_of_pc]
  induction n with
  | zero => rfl
  | succ m ih => exact (runTo_of_act (by simp [hpc]) hact m).trans ih

theorem runCtx_drainWait_ends (hpc : s.fg.pc = .w3) (hocc : s.occ .tx = 0) (n : Nat) :
    runCtx .fg (n + 1) s = runCtx .fg n (s.goto .fg .w4) :=
  runTo_of_act (by simp [hpc]) (by simp [act, hpc, actW3, hocc]) n

/-- At occupancy 0, with two slots or more, the byte queued is the one element (R103). -/
theorem State.occOf_queuedTx (hs : s.Inv) (hcap : 2 ≤ s.cfg.capTx) (hpg : s.tx.put = s.tx.get) :
    occOf s.cfg.capTx s.queuedTx = 1 := by
  obtain ⟨hw, hf, -, -⟩ := State.inv_iff.1 hs
  obtain ⟨-, hput, -⟩ := hf .tx
  rw [occOf_eq_iff (by omega)]
  simpa [State.queuedTx, State.mode, Cfg.mode, hpg] using State.difference_inc_put (f := .tx) (q := s.tx) hw hput

/-- Settles O42: W3's hold, and its end into W4 with the byte queued and a RESUME that finds nothing to do, kicks, or holds. -/
theorem drainWaitEndsAtOccupancyZero : Obligations.DrainWaitEndsAtOccupancyZero := by
  unfold Obligations.DrainWaitEndsAtOccupancyZero
  intro s n hpc
  have hempty : s.Inv → s.occ .tx = 0 → s.tx.put = s.tx.get := fun hs hocc => by
    obtain ⟨-, hf, -, -⟩ := State.inv_iff.1 hs
    obtain ⟨hget, hput, -⟩ := hf .tx
    exact (occOf_eq_zero_iff hget hput).1 hocc
  refine ⟨fun hocc => runCtx_drainWait hpc hocc n, fun hocc h => ?_, fun hocc hn hs hcap hst hans => ?_,
    fun hocc hn hs hcap hst hf => ?_⟩
  · obtain ⟨m, rfl⟩ := Nat.exists_eq_add_of_le' (show 1 ≤ n by omega)
    rw [runCtx_drainWait_ends hpc hocc, runCtx_w4_noop (s := s.goto .fg .w4) rfl
      (h.imp (fun ⟨hm, hst⟩ => ⟨by omega, hst⟩) fun ⟨hm, hocc'⟩ => ⟨by omega, hocc'⟩)]
    rfl
  · obtain ⟨m, rfl⟩ := Nat.exists_eq_add_of_le' (show 1 ≤ n by omega)
    have hpg := hempty hs hocc
    have hm : memRead (memWrite s.tx.store s.tx.put.toNat s.fg.b) s.tx.get.toNat = some s.fg.b := by
      rw [hpg, memRead_memWrite_same]
    obtain ⟨t, e, hpc', hflag, hrx, htx, hmarkers, hper, htrace⟩ :=
      exists_runCtx_w4_kick (s := s.goto .fg .w4) rfl (by simp; omega) hst
        (Nat.lt_of_lt_of_eq Nat.one_pos (State.occOf_queuedTx hs hcap hpg).symm) hans hm (show 11 ≤ m by omega)
    exact ⟨t, (runCtx_drainWait_ends hpc hocc m).trans e, hpc', hflag, hrx, htx, hmarkers, hper, htrace⟩
  · obtain ⟨m, rfl⟩ := Nat.exists_eq_add_of_le' (show 7 ≤ n by omega)
    rw [Nat.add_sub_cancel] at hf ⊢
    have hqueued := State.occOf_queuedTx hs hcap (hempty hs hocc)
    have e := runCtx_w4_hold (s := s.goto .fg .w4) rfl hst (Nat.lt_of_lt_of_eq Nat.one_pos hqueued.symm)
      (State.pollsFalse_congr rfl rfl rfl rfl hf)
    obtain ⟨horacle, hdraws⟩ := State.polled_congr (s := s) (t := (s.goto .fg .w4).queued) rfl rfl rfl m
    exact ⟨_, (runCtx_drainWait_ends hpc hocc (m + 6)).trans e, rfl, rfl, hst, rfl, rfl, rfl, rfl, horacle, hdraws, rfl⟩

end Sys2Proof.Machine
end

section
/-! WRITE in the foreground at rest, at the watermark (R132, R138). -/

namespace Sys2Proof.Machine

variable {s t : State} {b v : Byte}

/-- WRITE has been issued and throttled: the S1 of its first RESUME next, which comes back to W3 (R132). -/
def State.throttled (s : State) (b : Byte) : State :=
  { s.mark .txThrottle with
    fg := { s.fg with pc := .s1, b := b, ret := .w3 }
    trace := s.trace ++ [.issued .fg (.write b)] }

theorem exec_write_throttled (hr : s.ready = true) (hw : s.watermark = true) {n : Nat} (hn : s.grant = n + 2) :
    exec (.write b) s = runCtx .fg n (s.throttled b) := by
  have hw2 : act .fg (((s.writeIssued b).mark .txThrottle).goto .fg .w2) = .next (s.throttled b) := by
    simp [act, State.mark_eq_markers, State.throttled, State.writeIssued, State.callResume, State.goto, State.setCtx,
      State.emit]
  rw [exec_write_of_ready hr, hn]
  exact (runTo_of_act (by simp) (by simp [act, actW1, hw]) (n + 1)).trans (runTo_of_act (by simp [State.goto]) hw2 n)

@[simp] theorem State.throttled_tx (s : State) (b : Byte) : (s.throttled b).tx = s.tx := State.mark_tx s _
@[simp] theorem State.throttled_rx (s : State) (b : Byte) : (s.throttled b).rx = s.rx := State.mark_rx s _
@[simp] theorem State.throttled_cfg (s : State) (b : Byte) : (s.throttled b).cfg = s.cfg := State.mark_cfg s _
@[simp] theorem State.throttled_stalled (s : State) (b : Byte) : (s.throttled b).stalled = s.stalled :=
  State.mark_stalled s _
@[simp] theorem State.throttled_per (s : State) (b : Byte) : (s.throttled b).per = s.per := State.mark_per s _
@[simp] theorem State.throttled_oracle (s : State) (b : Byte) : (s.throttled b).oracle = s.oracle := State.mark_oracle s _
@[simp] theorem State.throttled_draws (s : State) (b : Byte) : (s.throttled b).draws = s.draws := State.mark_draws s _
@[simp] theorem State.throttled_fg (s : State) (b : Byte) :
    (s.throttled b).fg = { s.fg with pc := .s1, b := b, ret := .w3 } := rfl
@[simp] theorem State.throttled_trace (s : State) (b : Byte) :
    (s.throttled b).trace = s.trace ++ [.issued .fg (.write b)] := rfl
@[simp] theorem State.throttled_occ (s : State) (b : Byte) : (s.throttled b).occ .tx = s.occ .tx := by
  simp [State.occ]
@[simp] theorem State.throttled_txEmptyAnswer (s : State) (b : Byte) :
    (s.throttled b).txEmptyAnswer = s.txEmptyAnswer := by
  simp [State.txEmptyAnswer]

theorem State.txThrottle_mem_throttled (s : State) (b : Byte) : Marker.txThrottle ∈ (s.throttled b).markers :=
  (State.mem_markers_mark _ _ _).2 (.inr rfl)

theorem State.occ_pos_of_watermark (hw : s.watermark = true) (hcap : 0 < s.cfg.capTx) : 0 < s.occ .tx := by
  have h := State.watermark_iff.1 hw
  rw [State.cap_tx] at h
  omega

/-- From the watermark one get does not empty the FIFO, so the drain-wait that follows a kick holds (R131, R132). -/
theorem State.occ_of_watermark_after_get (hs : s.Inv) (hw : s.watermark = true) (hcfg : t.cfg = s.cfg)
    (htx : t.tx = { s.tx with get := inc s.cfg.modeTx s.cfg.capTx s.tx.get, cnt := s.tx.cnt - 1 }) : t.occ .tx ≠ 0 := by
  obtain ⟨hwf, hf, -, -⟩ := State.inv_iff.1 hs
  obtain ⟨hget, -⟩ := hf .tx
  have hlt : s.occ .tx < s.cap .tx := occOf_lt (Nat.zero_lt_of_lt hget) s.tx
  have h := State.watermark_iff.1 hw
  have hocc : t.occ .tx = (s.occ .tx + s.cap .tx - 1) % s.cap .tx := by
    rw [← State.occ_inc_get hwf hget, State.occ, State.cap_tx, hcfg, State.fifo_tx, htx]
    rfl
  have hpred : (s.occ .tx + s.cap .tx - 1) % s.cap .tx = s.occ .tx - 1 := by
    rw [show s.occ .tx + s.cap .tx - 1 = s.occ .tx - 1 + s.cap .tx by omega, Nat.add_mod_right,
      Nat.mod_eq_of_lt (by omega)]
  omega

/-- Settles O41: throttled, WRITE's first RESUME is a no-op, kicks, or holds; the first two lead to W3, which holds. -/
theorem writeHoldsAtTheWatermark : Obligations.WriteHoldsAtTheWatermark := by
  unfold Obligations.WriteHoldsAtTheWatermark
  intro s b hr hw hcap
  have hpos := State.occ_pos_of_watermark hw hcap
  have hthrottle := State.txThrottle_mem_throttled s b
  refine ⟨fun hg hst => ?_, fun v hg hs hst hans hcnt hm => ?_, fun hg hst hf => ?_⟩
  · obtain ⟨n, hn⟩ := Nat.exists_eq_add_of_le' hg
    have e : exec (.write b) s = .next ((s.throttled b).ret .fg) := calc
      exec (.write b) s = runCtx .fg (n + 1) (s.throttled b) := exec_write_throttled hr hw hn
      _ = runCtx .fg n ((s.throttled b).ret .fg) :=
        runTo_resume_active (stop := .idle) (by decide) rfl (by simpa using hst) n
      _ = .next ((s.throttled b).ret .fg) := runCtx_drainWait rfl (by simpa using hpos.ne') n
    exact ⟨_, e, rfl, rfl, hthrottle, by simp, by simp, by simpa using hst, by simp, by simp⟩
  · obtain ⟨n, hn⟩ := Nat.exists_eq_add_of_le' hg
    obtain ⟨t, e, ht⟩ := exists_kicked (stop := .idle) (w := .fg) (s := s.throttled b) (v := v) (by decide) rfl
      (by simpa using hst) (by simpa using hpos) (by simpa using hans) (by simpa using hm) (by simpa using hcnt) n
    have hfg : t.fg = { s.fg with pc := .w3, b := b, v := v, ret := .w3 } := ht.ctx
    have htx : t.tx = { s.tx with get := inc s.cfg.modeTx s.cfg.capTx s.tx.get, cnt := s.tx.cnt - 1 } := by
      simpa using ht.tx
    have hocc : t.occ .tx ≠ 0 := State.occ_of_watermark_after_get hs hw (by simpa using ht.cfg) htx
    have e' : exec (.write b) s = .next t := calc
      exec (.write b) s = runCtx .fg (n + 7) (s.throttled b) := exec_write_throttled hr hw hn
      _ = runCtx .fg n t := e
      _ = .next t := runCtx_drainWait (by rw [hfg]) hocc n
    have hmarkers := ht.markers
    refine ⟨t, e', by rw [hfg], by rw [hfg], ?_, htx, by simpa using ht.rx, ht.stalled, fun h0 => ?_,
      by simpa using ht.per, by simpa using ht.trace⟩
    · rw [hmarkers]
      split <;> simp [hthrottle]
    · rw [hmarkers]
      split
      next => simp
      next h => exact not_not.1 fun hne => h ⟨by simpa using h0, hne⟩
  · obtain ⟨n, hn⟩ := Nat.exists_eq_add_of_le' (show 4 ≤ s.grant by omega)
    rw [hn, Nat.add_sub_cancel] at hf ⊢
    obtain ⟨horacle, hdraws⟩ := State.polled_congr (s := s) (t := s.throttled b) (by simp) (by simp) (by simp) n
    have e : exec (.write b) s = .next ((s.throttled b).heldAtS3 .fg n) := calc
      exec (.write b) s = runCtx .fg (n + 2) (s.throttled b) := exec_write_throttled hr hw hn
      _ = .next ((s.throttled b).heldAtS3 .fg n) :=
        runTo_resume_hold (stop := .idle) (by decide) rfl (by simpa using hst) (by simpa using hpos)
          (State.pollsFalse_congr (by simp) (by simp) (by simp) (by simp) hf)
    refine ⟨_, e, rfl, rfl, rfl, hthrottle, ?_, ?_, ?_, ?_, horacle, hdraws, ?_⟩ <;> simp [State.heldAtS3, hst]

end Sys2Proof.Machine
end

section
/-! The frames of RESUME and READ (R62, R133, R134): what an action in one of the port's own phases leaves alone, and what a
slice of them leaves alone. -/

namespace Sys2Proof.Machine

variable {stop : Phase} {w : Who} {s t u : State}

/-- What every action of a context not yet at the stop keeps, a slice of its actions keeps. -/
theorem runTo_keeps_of_ne_stop {P : State → Prop}
    (hact : ∀ s t, P s → (s.ctx w).pc ≠ stop → act w s = .next t → P t) (n : Nat) :
    ∀ {s t : State}, P s → runTo stop w n s = .next t → P t := by
  induction n with
  | zero => exact fun hs h => Host.Outcome.next.inj h ▸ hs
  | succ m ih =>
    intro s t hs h
    rw [runTo_succ] at h
    split at h
    next => exact Host.Outcome.next.inj h ▸ hs
    next hpc =>
      obtain ⟨u, hu, hk⟩ := andThen_eq_next h
      exact ih (hact s u hs hpc hu) hk

theorem runTo_clrOrder {n : Nat} (e : runTo stop w n s = .next t) : t.clrOrder = s.clrOrder := by
  refine runTo_keeps (P := fun u => u.clrOrder = s.clrOrder) (fun u v hu hv => ?_) n rfl e
  obtain ⟨-, -, hclr, -⟩ := act_fixed hv
  exact hclr.trans hu

/-- The phases of WRITE and RESUME, the FPUT inside WRITE aside (R132, R133). -/
def portPhases : List Phase := [.w1, .w2, .w3, .w4, .w5] ++ resumePhases

/-- What an action of context `w` in one of those phases leaves alone: the inbound FIFO, the outbound put and storage, what
belongs to the receive handler and the interrupt controller, and every other context (R62, R210). -/
structure PortKept (w : Who) (s t : State) : Prop where
  rx : t.rx = s.rx
  put : t.tx.put = s.tx.put
  store : t.tx.store = s.tx.store
  rxiSw : t.rxiSw = s.rxiSw
  txIrq : t.per.txIrq = s.per.txIrq
  rxIrq : t.per.rxIrq = s.per.rxIrq
  other : ∀ x, x ≠ w → t.ctx x = s.ctx x

theorem PortKept.refl (w : Who) (s : State) : PortKept w s s :=
  ⟨rfl, rfl, rfl, rfl, rfl, rfl, fun _ _ => rfl⟩

theorem PortKept.trans (h : PortKept w s t) (k : PortKept w t u) : PortKept w s u where
  rx := k.rx.trans h.rx
  put := k.put.trans h.put
  store := k.store.trans h.store
  rxiSw := k.rxiSw.trans h.rxiSw
  txIrq := k.txIrq.trans h.txIrq
  rxIrq := k.rxIrq.trans h.rxIrq
  other x hx := (k.other x hx).trans (h.other x hx)

/-- A data write leaves the pending bits (R184, R208). -/
theorem State.writeData_irq (s : State) (a : Agent) (v : Byte) :
    (s.writeData a v).per.txIrq = s.per.txIrq ∧ (s.writeData a v).per.rxIrq = s.per.rxIrq := by
  unfold State.writeData
  split
  · exact ⟨rfl, rfl⟩
  · split <;> simp

/-- A dequeue moves get and the count only (R106). -/
theorem Dequeued.put_store {f : Sel} (h : Dequeued f s t) :
    (t.fifo f).put = (s.fifo f).put ∧ (t.fifo f).store = (s.fifo f).store := by
  rw [h.1]
  exact ⟨rfl, rfl⟩

/-- The dequeue of S5 moves the outbound get and count only (R106, R133). -/
theorem portKept_s5 (hpc : (s.ctx w).pc = .s5) (e : act w s = .next t) : PortKept w s t := by
  have hf := act_fifo e
  have hother := fun x (hx : x ≠ w) => act_other hx e
  simp only [hpc] at hf
  obtain ⟨hput, hstore⟩ := hf.put_store
  obtain ⟨-, -, hrx⟩ := hf
  simp only [act, hpc] at e
  obtain ⟨u, hu, rfl⟩ := actAdvance_next e
  obtain ⟨-, -, hsw, -, hper, -⟩ := State.advanceGet_frame hu
  exact ⟨hrx .rx (by decide), hput, hstore, by simpa using hsw, by simp [hper],
    by simp [hper], hother⟩

theorem portKept_of_fifo (hfifo : ∀ f, t.fifo f = s.fifo f) (hsw : t.rxiSw = s.rxiSw)
    (htx : t.per.txIrq = s.per.txIrq) (hrx : t.per.rxIrq = s.per.rxIrq) (hother : ∀ x, x ≠ w → t.ctx x = s.ctx x) :
    PortKept w s t := by
  have hq : t.tx = s.tx := hfifo .tx
  exact ⟨hfifo .rx, by rw [hq], by rw [hq], hsw, htx, hrx, hother⟩

/-- Of these phases S5 alone touches a FIFO, and S6 alone the peripheral (R62, R133). -/
theorem act_portKept (h : (s.ctx w).pc ∈ portPhases) (e : act w s = .next t) : PortKept w s t := by
  have hf := act_fifo e
  have hother := fun x (hx : x ≠ w) => act_other hx e
  cases hpc : (s.ctx w).pc
  case s5 => exact portKept_s5 hpc e
  case s6 =>
    simp only [hpc] at hf
    simp only [act, hpc] at e
    obtain rfl := Host.Outcome.next.inj e
    obtain ⟨htx, hrx⟩ := State.writeData_irq s (s.agentOf w) (s.ctx w).v
    exact portKept_of_fifo hf (by simp) (by simpa using htx) (by simpa using hrx) hother
  case w1 | w2 | w3 | w4 | w5 | s1 | s2 | s3 | s4 | s7 =>
    simp only [hpc] at hf
    simp only [act, hpc] at e
    obtain rfl := Host.Outcome.next.inj e
    refine portKept_of_fifo hf ?_ ?_ ?_ hother <;>
      simp [actW1, actW3, actS1, actS2, actS3, apply_ite State.rxiSw, apply_ite State.per]
  all_goals simp [hpc, portPhases, resumePhases] at h

/-- RESUME stays in its phases, with the phase it comes back to kept, or comes back (R133, R142). -/
theorem act_resume_ctx (h : (s.ctx w).pc ∈ resumePhases) (e : act w s = .next t) :
    ((t.ctx w).pc ∈ resumePhases ∧ (t.ctx w).ret = (s.ctx w).ret) ∨ (t.ctx w).pc = (s.ctx w).ret := by
  have hc := act_ctx e
  cases hpc : (s.ctx w).pc <;> simp only [hpc] at hc
  case s1 | s2 | s3 => rcases hc with hc | hc <;> simp [hc, resumePhases]
  case s4 | s5 | s6 | s7 => simp [hc, resumePhases]
  all_goals simp [hpc, resumePhases] at h

/-- A slice of a RESUME that comes back to the stop leaves what its phases leave. -/
theorem runTo_resume_kept (hpc : (s.ctx w).pc ∈ resumePhases) (hret : (s.ctx w).ret = stop) {n : Nat}
    (e : runTo stop w n s = .next t) : PortKept w s t := by
  have hact : ∀ u v, (PortKept w s u ∧ ((u.ctx w).pc ∈ resumePhases ∧ (u.ctx w).ret = stop ∨ (u.ctx w).pc = stop)) →
      (u.ctx w).pc ≠ stop → act w u = .next v →
      PortKept w s v ∧ ((v.ctx w).pc ∈ resumePhases ∧ (v.ctx w).ret = stop ∨ (v.ctx w).pc = stop) := by
    rintro u v ⟨hk, hin⟩ hne hv
    obtain ⟨hp, hr⟩ := hin.resolve_right hne
    refine ⟨hk.trans (act_portKept (by simp [portPhases, hp]) hv), ?_⟩
    exact (act_resume_ctx hp hv).imp (fun ⟨hp', hr'⟩ => ⟨hp', hr'.trans hr⟩) (·.trans hr)
  exact (runTo_keeps_of_ne_stop hact n ⟨PortKept.refl w s, .inl ⟨hpc, hret⟩⟩ e).1

/-- What READ in context `w` leaves alone (R62, R134). -/
structure ReadKept (w : Who) (s t : State) : Prop where
  tx : t.tx = s.tx
  put : t.rx.put = s.rx.put
  store : t.rx.store = s.rx.store
  stalled : t.stalled = s.stalled
  per : t.per = s.per
  oracle : t.oracle = s.oracle
  rxiSw : t.rxiSw = s.rxiSw
  other : ∀ x, x ≠ w → t.ctx x = s.ctx x

/-- READ's two phases, and its end (R134). -/
def readPhases : List Phase := [.d1, .d2, .idle]

theorem act_readKept (h : (s.ctx w).pc ∈ readPhases) (e : act w s = .next t) :
    ReadKept w s t ∧ (t.ctx w).pc ∈ readPhases := by
  have hf := act_fifo e
  have hc := act_ctx e
  have hst := act_stalled e
  have hother := fun x (hx : x ≠ w) => act_other hx e
  simp only [readPhases, List.mem_cons, List.not_mem_nil, or_false] at h
  rcases h with hpc | hpc | hpc <;> simp only [hpc] at hf hc hst <;> simp only [act, hpc] at e
  · obtain rfl := Host.Outcome.next.inj e
    exact ⟨⟨hf .tx, by simp, by simp, hst, by simp, by simp, by simp, hother⟩, by simp [hc, readPhases]⟩
  · obtain ⟨hput, hstore⟩ := hf.put_store
    obtain ⟨-, -, htx⟩ := hf
    obtain ⟨u, hu, rfl⟩ := actAdvance_next e
    obtain ⟨-, -, hsw, -, hper, hor, -⟩ := State.advanceGet_frame hu
    exact ⟨⟨htx .tx (by decide), hput, hstore, hst, by simpa [finishRead] using hper,
      by simpa [finishRead] using hor, by simpa [finishRead] using hsw, hother⟩, by simp [hc, readPhases]⟩
  · obtain rfl := Host.Outcome.next.inj e
    exact ⟨⟨rfl, rfl, rfl, rfl, rfl, rfl, rfl, fun _ _ => rfl⟩, by simp [hpc, readPhases]⟩

theorem ReadKept.trans (h : ReadKept w s t) (k : ReadKept w t u) : ReadKept w s u where
  tx := k.tx.trans h.tx
  put := k.put.trans h.put
  store := k.store.trans h.store
  stalled := k.stalled.trans h.stalled
  per := k.per.trans h.per
  oracle := k.oracle.trans h.oracle
  rxiSw := k.rxiSw.trans h.rxiSw
  other x hx := (k.other x hx).trans (h.other x hx)

theorem runCtx_readKept (h : (s.ctx w).pc ∈ readPhases) {n : Nat} (e : runCtx w n s = .next t) : ReadKept w s t := by
  have hact : ∀ u v, ReadKept w s u ∧ (u.ctx w).pc ∈ readPhases → act w u = .next v →
      ReadKept w s v ∧ (v.ctx w).pc ∈ readPhases := fun u v ⟨hk, hp⟩ hv =>
    (act_readKept hp hv).imp_left hk.trans
  exact (runCtx_keeps hact n ⟨⟨rfl, rfl, rfl, rfl, rfl, rfl, rfl, fun _ _ => rfl⟩, h⟩ e).1

/-- The state right after RESUME's issue: nothing of its frame changed (R61). -/
theorem State.portKept_resumeIssued (s : State) : PortKept s.resumer s s.resumeIssued where
  rx := by simp
  put := by simp
  store := by simp
  rxiSw := by simp
  txIrq := by simp
  rxIrq := by simp
  other _ hx := State.resumeIssued_other s hx

theorem exec_resume_kept (e : exec .resume s = .next t) : PortKept s.resumer s t ∧ t.clrOrder = s.clrOrder := by
  obtain ⟨-, e⟩ := startResume_next e
  exact ⟨s.portKept_resumeIssued.trans (runTo_resume_kept (s := s.resumeIssued) (by simp [resumePhases]) (by simp) e),
    (runTo_clrOrder e).trans (by simp)⟩

theorem exec_read_kept (e : exec .read s = .next t) : ReadKept s.issuer s t ∧ t.clrOrder = s.clrOrder := by
  obtain ⟨-, e⟩ := issue_next (i := .read) (enter := entryOf .read s) e
  have hissued : ReadKept s.issuer s
      ((s.setCtx s.issuer (entryOf .read s (s.ctx s.issuer))).emit (.issued (s.agentOf s.issuer) .read)) :=
    { tx := by simp, put := by simp, store := by simp, stalled := by simp, per := by simp, oracle := by simp,
      rxiSw := by simp, other := fun x hx => by simp [State.ctx_setCtx_other s _ hx] }
  exact ⟨hissued.trans (runCtx_readKept (by simp [entryOf, readPhases]) e), (runTo_clrOrder e).trans (by simp)⟩

/-- Settles O49: command by command. -/
theorem resumeAndReadFrame : Obligations.ResumeAndReadFrame := by
  unfold Obligations.ResumeAndReadFrame
  intro s t i hi e
  obtain ⟨hcfg, hboot, hcmds, hturns, hgrant⟩ := exec_fixed e
  rcases hi with rfl | rfl
  · obtain ⟨h, hclr⟩ := exec_resume_kept e
    exact ⟨h.rxiSw, hcfg, hboot, hclr, hcmds, hturns, hgrant, fun _ => ⟨h.rx, h.put, h.store, h.other⟩, nofun⟩
  · obtain ⟨h, hclr⟩ := exec_read_kept e
    exact ⟨h.rxiSw, hcfg, hboot, hclr, hcmds, hturns, hgrant, nofun,
      fun _ => ⟨h.tx, h.put, h.store, h.stalled, h.per, h.oracle, h.other⟩⟩

end Sys2Proof.Machine
end

section
/-! The frame of WRITE (R62, R132): put stays where it was until FPUT's P2, so P1, which WRITE makes once, stores into the
slot it named at the issue. -/

namespace Sys2Proof.Machine

variable {w : Who} {s t u : State}

/-- A context inside WRITE: with FPUT's P1 still to come (`stored = false`), or past it (R132, R142). -/
inductive InWrite : (stored : Bool) → Ctx → Prop
  | own {c : Ctx} (hpc : c.pc ∈ [.w1, .w2, .w3, .w4]) : InWrite false c
  | firstResume {c : Ctx} (hpc : c.pc ∈ resumePhases) (hret : c.ret = .w3) : InWrite false c
  | p1 {c : Ctx} (hpc : c.pc = .p1) (hsel : c.sel = .tx) (hret : c.ret = .w5) : InWrite false c
  | p2 {c : Ctx} (hpc : c.pc = .p2) (hsel : c.sel = .tx) (hret : c.ret = .w5) : InWrite true c
  | w5 {c : Ctx} (hpc : c.pc = .w5) : InWrite true c
  | lastResume {c : Ctx} (hpc : c.pc ∈ resumePhases) (hret : c.ret = .idle) : InWrite true c
  | done {c : Ctx} (hpc : c.pc = .idle) : InWrite true c

/-- What WRITE in context `w` leaves alone (R62, R132, R210). -/
structure WriteKept (w : Who) (s t : State) : Prop where
  rx : t.rx = s.rx
  rxiSw : t.rxiSw = s.rxiSw
  txIrq : t.per.txIrq = s.per.txIrq
  rxIrq : t.per.rxIrq = s.per.rxIrq
  other : ∀ x, x ≠ w → t.ctx x = s.ctx x
  slots : ∀ a, a ≠ s.tx.put.toNat → memRead t.tx.store a = memRead s.tx.store a

/-- How far WRITE has come from its issue in `s`: put still where it was and the byte not stored, or past P1. -/
def WriteAt (w : Who) (s t : State) : Prop :=
  (InWrite false (t.ctx w) ∧ t.tx.put = s.tx.put) ∨ InWrite true (t.ctx w)

theorem WriteKept.port (h : WriteKept w s t) (k : PortKept w t u) : WriteKept w s u where
  rx := k.rx.trans h.rx
  rxiSw := k.rxiSw.trans h.rxiSw
  txIrq := k.txIrq.trans h.txIrq
  rxIrq := k.rxIrq.trans h.rxIrq
  other x hx := (k.other x hx).trans (h.other x hx)
  slots a ha := k.store ▸ h.slots a ha

/-- P1 of WRITE's FPUT, put still where it was. -/
theorem act_write_p1 (hk : WriteKept w s t) (hput : t.tx.put = s.tx.put) (hpc : (t.ctx w).pc = .p1)
    (hsel : (t.ctx w).sel = .tx) (hret : (t.ctx w).ret = .w5) (e : act w t = .next u) :
    WriteKept w s u ∧ WriteAt w s u := by
  have hc := act_ctx e
  have hother := fun x (hx : x ≠ w) => act_other hx e
  simp only [hpc] at hc
  simp only [act, hpc, hsel] at e
  obtain rfl := Host.Outcome.next.inj e
  refine ⟨⟨?_, ?_, ?_, ?_, fun x hx => (hother x hx).trans (hk.other x hx), fun a ha => ?_⟩,
    .inr (.p2 (by rw [hc]) (by rw [hc]; exact hsel) (by rw [hc]; exact hret))⟩
  · simpa [State.writeSlot] using hk.rx
  · simpa using hk.rxiSw
  · simpa using hk.txIrq
  · simpa using hk.rxIrq
  · simpa [State.writeSlot, Fifo.putSlot, hput, memRead_memWrite_other _ _ ha] using hk.slots a ha

/-- P2 of WRITE's FPUT. -/
theorem act_write_p2 (hk : WriteKept w s t) (hpc : (t.ctx w).pc = .p2) (hsel : (t.ctx w).sel = .tx)
    (hret : (t.ctx w).ret = .w5) (e : act w t = .next u) : WriteKept w s u ∧ WriteAt w s u := by
  have hc := act_ctx e
  have hf := act_fifo e
  have hother := fun x (hx : x ≠ w) => act_other hx e
  simp only [hpc, hsel] at hc hf
  obtain ⟨htx, -, hrx⟩ := hf
  have hstore : u.tx.store = t.tx.store := by rw [← State.fifo_tx u, htx, State.fifo_tx]
  have hrx' : u.rx = t.rx := hrx .rx (by decide)
  simp only [act, hpc, hsel] at e
  obtain rfl := Host.Outcome.next.inj e
  exact ⟨⟨hrx'.trans hk.rx, by simpa using hk.rxiSw, by simpa using hk.txIrq, by simpa using hk.rxIrq,
    fun x hx => (hother x hx).trans (hk.other x hx), fun a ha => hstore ▸ hk.slots a ha⟩,
    .inr (.w5 (by rw [hc]; exact hret))⟩

theorem act_write_own {c : Ctx} (e : act w t = .next u) (hc : t.ctx w = c) (hpc : c.pc ∈ [.w1, .w2, .w3, .w4]) :
    InWrite false (u.ctx w) := by
  have hctx := act_ctx e
  rw [hc] at hctx
  simp only [List.mem_cons, List.not_mem_nil, or_false] at hpc
  rcases hpc with hpc | hpc | hpc | hpc <;> simp only [hpc] at hctx
  · rcases hctx with h | h <;> exact .own (by simp [h])
  · exact .firstResume (by simp [hctx, resumePhases]) (by simp [hctx])
  · rcases hctx with h | h <;> exact .own (by simp [h])
  · exact .p1 (by simp [hctx]) (by simp [hctx]) (by simp [hctx])

theorem act_write (hk : WriteKept w s t) (hin : WriteAt w s t) (e : act w t = .next u) :
    WriteKept w s u ∧ WriteAt w s u := by
  rcases hin with ⟨hin, hput⟩ | hin
  · cases hin with
    | own hpc =>
      have hport : ∀ p ∈ [Phase.w1, .w2, .w3, .w4], p ∈ portPhases := by decide
      have hkept : PortKept w t u := act_portKept (hport _ hpc) e
      exact ⟨hk.port hkept, .inl ⟨act_write_own e rfl hpc, hkept.put.trans hput⟩⟩
    | firstResume hpc hret =>
      have hkept : PortKept w t u := act_portKept (List.mem_append_right _ hpc) e
      refine ⟨hk.port hkept, .inl ⟨?_, hkept.put.trans hput⟩⟩
      rcases act_resume_ctx hpc e with ⟨hpc', hret'⟩ | hpc'
      · exact .firstResume hpc' (hret'.trans hret)
      · exact .own (by simp [hpc', hret])
    | p1 hpc hsel hret => exact act_write_p1 hk hput hpc hsel hret e
  · cases hin with
    | p2 hpc hsel hret => exact act_write_p2 hk hpc hsel hret e
    | w5 hpc =>
      have hc := act_ctx e
      simp only [hpc] at hc
      exact ⟨hk.port (act_portKept (by simp [hpc, portPhases]) e),
        .inr (.lastResume (by simp [hc, resumePhases]) (by simp [hc]))⟩
    | lastResume hpc hret =>
      refine ⟨hk.port (act_portKept (List.mem_append_right _ hpc) e), .inr ?_⟩
      rcases act_resume_ctx hpc e with ⟨hpc', hret'⟩ | hpc'
      · exact .lastResume hpc' (hret'.trans hret)
      · exact .done (hpc'.trans hret)
    | done hpc =>
      simp only [act, hpc] at e
      obtain rfl := Host.Outcome.next.inj e
      exact ⟨hk, .inr (.done hpc)⟩

/-- WRITE that is not refused runs in the foreground, from W1 (R132, R216). -/
theorem exec_write_kept {b : Byte} (hact : s.handlerActive = false) (e : exec (.write b) s = .next t) :
    WriteKept .fg s t ∧ t.clrOrder = s.clrOrder := by
  have hw : s.issuer = .fg := by simp [State.issuer, hact]
  have e' : issue (.write b) (entryOf (.write b) s) s = .next t := (if_neg (by simp [hact])).symm.trans e
  obtain ⟨-, hrun⟩ := issue_next e'
  rw [hw] at hrun
  refine ⟨?_, (runTo_clrOrder hrun).trans (by simp)⟩
  have hissued : WriteKept .fg s
      ((s.setCtx .fg (entryOf (.write b) s (s.ctx .fg))).emit (.issued (s.agentOf .fg) (.write b))) :=
    { rx := rfl, rxiSw := rfl, txIrq := rfl, rxIrq := rfl, other := fun x hx => by simp [State.ctx_setCtx_other s _ hx],
      slots := fun _ _ => rfl }
  exact (runCtx_keeps (P := fun u => WriteKept .fg s u ∧ WriteAt .fg s u) (fun u v hu hv => act_write hu.1 hu.2 hv) _
    ⟨hissued, .inl ⟨.own (by simp [entryOf]), rfl⟩⟩ hrun).1

/-- Settles O44: refused, WRITE only records its marker; else its slice keeps the frame. -/
theorem writeFrame : Obligations.WriteFrame := by
  unfold Obligations.WriteFrame
  intro s t b e
  obtain ⟨hcfg, hboot, hcmds, hturns, hgrant⟩ := exec_fixed e
  cases hact : s.handlerActive with
  | true =>
    have ht : s.mark (.contextViolation (.write b)) = t := Host.Outcome.next.inj ((if_pos hact).symm.trans e)
    subst ht
    simp
  | false =>
    obtain ⟨h, hclr⟩ := exec_write_kept hact e
    exact ⟨h.rx, h.other .txi (by decide), h.other .rxi (by decide), h.rxiSw, h.other .call (by decide), hcfg, hboot, hclr,
      hcmds, hturns, hgrant, h.txIrq, h.rxIrq, h.slots⟩

end Sys2Proof.Machine
end

section
/-! The frames of TXRDY and RXRDY (R62, R161, R162, R210): the phases each handler passes through, what an action in one of them
leaves alone, and what a slice of them leaves alone. -/

namespace Sys2Proof.Machine

variable {w : Who} {s t u : State}

/-- Of the actions only the register poll and the status read use up an answer of the oracle (R190 a). -/
theorem act_oracle (hpoll : (s.ctx w).pc ≠ .s3) (hread : (s.ctx w).pc ≠ .x1) (e : act w s = .next t) :
    t.oracle = s.oracle := by
  cases hpc : (s.ctx w).pc <;> simp only [act, hpc] at e
  case s3 => exact absurd hpc hpoll
  case x1 => exact absurd hpc hread
  case s5 | d2 | g2 =>
    obtain ⟨u, hu, rfl⟩ := actAdvance_next e
    obtain ⟨-, -, -, -, -, hor, -⟩ := State.advanceGet_frame hu
    simpa [finishRead, finishGet_frame] using hor
  all_goals
    cases e
    simp [actW1, actW3, actS1, actS2, actT1, actX2, apply_ite State.oracle]

/-- Of the actions only the status read latches a status word (R28, R162). -/
theorem act_rxiSw (hread : (s.ctx w).pc ≠ .x1) (e : act w s = .next t) : t.rxiSw = s.rxiSw := by
  cases hpc : (s.ctx w).pc <;> simp only [act, hpc] at e
  case x1 => exact absurd hpc hread
  case s5 | d2 | g2 =>
    obtain ⟨u, hu, rfl⟩ := actAdvance_next e
    obtain ⟨-, -, hsw, -⟩ := State.advanceGet_frame hu
    simpa [finishRead, finishGet_frame] using hsw
  all_goals
    cases e
    simp [actW1, actW3, actS1, actS2, actS3, actT1, actX2, apply_ite State.rxiSw]

/-- Interrupt entry touches no other context (R210). -/
theorem State.enterHandler_other (s : State) {src : IrqSource} {x : Who} (hx : x ≠ handlerOf src) (i : Instr) :
    (s.enterHandler src i).ctx x = s.ctx x := by
  simp [State.enterHandler, State.goto_other hx]

/-! ### TXRDY -/

/-- A context inside TXRDY: in one of its own phases or at its end, or inside T2's FGET (R161). -/
inductive InTxrdy : Ctx → Prop
  | own {c : Ctx} (hpc : c.pc ∈ [.t1, .t2, .t3, .t4, .t5, .idle]) : InTxrdy c
  | get {c : Ctx} (hpc : c.pc ∈ [.g1, .g2]) (hsel : c.sel = .tx) (hret : c.ret = .t3) : InTxrdy c

/-- What TXRDY in context `w` leaves alone (R62, R161, R210). -/
structure TxrdyKept (w : Who) (s t : State) : Prop where
  rx : t.rx = s.rx
  put : t.tx.put = s.tx.put
  store : t.tx.store = s.tx.store
  rxiSw : t.rxiSw = s.rxiSw
  oracle : t.oracle = s.oracle
  other : ∀ x, x ≠ w → t.ctx x = s.ctx x

theorem TxrdyKept.trans (h : TxrdyKept w s t) (k : TxrdyKept w t u) : TxrdyKept w s u where
  rx := k.rx.trans h.rx
  put := k.put.trans h.put
  store := k.store.trans h.store
  rxiSw := k.rxiSw.trans h.rxiSw
  oracle := k.oracle.trans h.oracle
  other x hx := (k.other x hx).trans (h.other x hx)

/-- An action keeps TXRDY in its phases, or ends it. -/
theorem InTxrdy.act (h : InTxrdy (s.ctx w)) (e : act w s = .next t) : InTxrdy (t.ctx w) := by
  have hc := act_ctx e
  cases h with
  | own hpc =>
    simp only [List.mem_cons, List.not_mem_nil, or_false] at hpc
    rcases hpc with hpc | hpc | hpc | hpc | hpc | hpc <;> simp only [hpc] at hc
    · rcases hc with hc | hc <;> exact .own (by simp [hc])
    · exact .get (by simp [hc]) (by simp [hc]) (by simp [hc])
    · exact .own (by simp [hc])
    · exact .own (by simp [hc])
    · exact .own (by simp [hc])
    · exact .own (by simp [hc, hpc])
  | get hpc hsel hret =>
    simp only [List.mem_cons, List.not_mem_nil, or_false] at hpc
    rcases hpc with hpc | hpc <;> simp only [hpc] at hc
    · exact .get (by simp [hc]) (by simp [hc, hsel]) (by simp [hc, hret])
    · exact .own (by simp [hc, hret])

/-- Of TXRDY's actions FGET's second alone touches a FIFO, the outbound get and count (R106, R161). -/
theorem act_txrdyKept (h : InTxrdy (s.ctx w)) (e : act w s = .next t) : TxrdyKept w s t := by
  have hf := act_fifo e
  have rest : (s.ctx w).pc ≠ .s3 → (s.ctx w).pc ≠ .x1 → t.rx = s.rx → t.tx.put = s.tx.put ∧ t.tx.store = s.tx.store →
      TxrdyKept w s t := fun hpoll hread hrx htx =>
    ⟨hrx, htx.1, htx.2, act_rxiSw hread e, act_oracle hpoll hread e, fun x hx => act_other hx e⟩
  have same : (∀ f, t.fifo f = s.fifo f) → t.rx = s.rx ∧ t.tx.put = s.tx.put ∧ t.tx.store = s.tx.store := fun hq =>
    ⟨hq .rx, congrArg Fifo.put (hq .tx), congrArg Fifo.store (hq .tx)⟩
  cases h with
  | own hpc =>
    simp only [List.mem_cons, List.not_mem_nil, or_false] at hpc
    rcases hpc with hpc | hpc | hpc | hpc | hpc | hpc <;> simp only [hpc] at hf <;>
      exact rest (by simp [hpc]) (by simp [hpc]) (same hf).1 (same hf).2
  | get hpc hsel =>
    simp only [List.mem_cons, List.not_mem_nil, or_false] at hpc
    rcases hpc with hpc | hpc <;> simp only [hpc, hsel] at hf
    · exact rest (by simp [hpc]) (by simp [hpc]) (same hf).1 (same hf).2
    · exact rest (by simp [hpc]) (by simp [hpc]) (hf.2.2 .rx (by decide)) hf.put_store

theorem exec_txrdy_kept (e : exec .txrdy s = .next t) : TxrdyKept .txi s t ∧ t.clrOrder = s.clrOrder := by
  rcases startHandler_next e with ⟨-, rfl⟩ | ⟨-, hrun⟩
  · exact ⟨⟨rfl, rfl, rfl, rfl, rfl, fun _ _ => rfl⟩, rfl⟩
  · have hact : ∀ u v, TxrdyKept .txi s u ∧ InTxrdy (u.ctx .txi) → act .txi u = .next v →
        TxrdyKept .txi s v ∧ InTxrdy (v.ctx .txi) := fun u v ⟨hk, hin⟩ hv =>
      ⟨hk.trans (act_txrdyKept hin hv), hin.act hv⟩
    have hentered : TxrdyKept .txi s (s.enterHandler .transmit .txrdy) :=
      ⟨rfl, rfl, rfl, rfl, rfl, fun x hx => s.enterHandler_other hx _⟩
    exact ⟨(runCtx_keeps hact _ ⟨hentered, .own (List.mem_cons_self ..)⟩ hrun).1, (runTo_clrOrder hrun).trans rfl⟩

/-! ### RXRDY -/

/-- A context inside RXRDY: with FPUT's P1 still to come or left out (`stored = false`), or past it (R162). -/
inductive InRxrdy : (stored : Bool) → Ctx → Prop
  | own {c : Ctx} (hpc : c.pc ∈ [.x1, .x2, .x3]) : InRxrdy false c
  | p1 {c : Ctx} (hpc : c.pc = .p1) (hsel : c.sel = .rx) (hret : c.ret = .x4) : InRxrdy false c
  | p2 {c : Ctx} (hpc : c.pc = .p2) (hsel : c.sel = .rx) (hret : c.ret = .x4) : InRxrdy true c
  | finish {c : Ctx} (hpc : c.pc ∈ [.x4, .idle]) : InRxrdy true c

/-- What RXRDY in context `w` leaves alone (R62, R162, R210). -/
structure RxrdyKept (w : Who) (s t : State) : Prop where
  tx : t.tx = s.tx
  stalled : t.stalled = s.stalled
  get : t.rx.get = s.rx.get
  slots : ∀ a, a ≠ s.rx.put.toNat → memRead t.rx.store a = memRead s.rx.store a
  other : ∀ x, x ≠ w → t.ctx x = s.ctx x

/-- How far RXRDY has come from its entry in `s`: put still where it was and nothing stored, or past P1. -/
def RxrdyAt (w : Who) (s t : State) : Prop :=
  (InRxrdy false (t.ctx w) ∧ t.rx.put = s.rx.put) ∨ InRxrdy true (t.ctx w)

/-- An action of RXRDY, by what it must leave of the inbound FIFO. -/
theorem RxrdyKept.next (hk : RxrdyKept w s t) (htx : u.tx = t.tx) (hst : u.stalled = t.stalled) (hget : u.rx.get = t.rx.get)
    (hslots : ∀ a, a ≠ s.rx.put.toNat → memRead u.rx.store a = memRead t.rx.store a)
    (hother : ∀ x, x ≠ w → u.ctx x = t.ctx x) : RxrdyKept w s u where
  tx := htx.trans hk.tx
  stalled := hst.trans hk.stalled
  get := hget.trans hk.get
  slots a ha := (hslots a ha).trans (hk.slots a ha)
  other x hx := (hother x hx).trans (hk.other x hx)

/-- Until P2 the put index is the one of the entry, so P1 stores into the slot it names. -/
theorem act_rxrdy (hk : RxrdyKept w s t) (hin : RxrdyAt w s t) (e : act w t = .next u) :
    RxrdyKept w s u ∧ RxrdyAt w s u := by
  have hc := act_ctx e
  have hf := act_fifo e
  have hst := act_stalled e
  have hother := fun x (hx : x ≠ w) => act_other hx e
  have same : (∀ f, u.fifo f = t.fifo f) → u.stalled = t.stalled → RxrdyKept w s u ∧ u.rx.put = t.rx.put :=
    fun hq hst =>
      have hrx : u.rx = t.rx := hq .rx
      ⟨hk.next (hq .tx) hst (by rw [hrx]) (fun _ _ => by rw [hrx]) hother, by rw [hrx]⟩
  rcases hin with ⟨hin, hput⟩ | hin
  · cases hin with
    | own hpc =>
      simp only [List.mem_cons, List.not_mem_nil, or_false] at hpc
      rcases hpc with hpc | hpc | hpc <;> simp only [hpc] at hc hf hst <;> obtain ⟨hk', hput'⟩ := same hf hst
      · refine ⟨hk', .inl ⟨?_, hput'.trans hput⟩⟩
        rcases hc with hc | hc <;> exact .own (by simp [hc])
      · exact ⟨hk', .inr (.finish (by simp [hc]))⟩
      · exact ⟨hk', .inl ⟨.p1 (by simp [hc]) (by simp [hc]) (by simp [hc]), hput'.trans hput⟩⟩
    | p1 hpc hsel hret =>
      simp only [hpc, hsel] at hc hf hst
      obtain ⟨hrx, htx⟩ := hf
      simp only [State.fifo_rx] at hrx
      refine ⟨hk.next (htx .tx (by decide)) hst (by rw [hrx]) (fun a ha => ?_) hother,
        .inr (.p2 (by simp [hc]) (by simp [hc]) (by simp [hc, hret]))⟩
      rw [hrx, hput, memRead_memWrite_other _ _ ha]
  · cases hin with
    | p2 hpc hsel hret =>
      simp only [hpc, hsel] at hc hf hst
      obtain ⟨hrx, -, htx⟩ := hf
      simp only [State.fifo_rx] at hrx
      exact ⟨hk.next (htx .tx (by decide)) hst (by rw [hrx]) (fun a _ => by rw [hrx]) hother,
        .inr (.finish (by simp [hc, hret]))⟩
    | finish hpc =>
      simp only [List.mem_cons, List.not_mem_nil, or_false] at hpc
      rcases hpc with hpc | hpc <;> simp only [hpc] at hc hf hst
      · exact ⟨(same hf hst).1, .inr (.finish (by simp [hc]))⟩
      · exact ⟨(same hf hst).1, .inr (.finish (by simp [hc, hpc]))⟩

theorem exec_rxrdy_kept (e : exec .rxrdy s = .next t) : RxrdyKept .rxi s t ∧ t.clrOrder = s.clrOrder := by
  rcases startHandler_next e with ⟨-, rfl⟩ | ⟨-, hrun⟩
  · exact ⟨⟨rfl, rfl, rfl, fun _ _ => rfl, fun _ _ => rfl⟩, rfl⟩
  · have hentered : RxrdyKept .rxi s (s.enterHandler .receive .rxrdy) :=
      ⟨rfl, rfl, rfl, fun _ _ => rfl, fun x hx => s.enterHandler_other hx _⟩
    exact ⟨(runCtx_keeps (P := fun u => RxrdyKept .rxi s u ∧ RxrdyAt .rxi s u)
      (fun u v hu hv => act_rxrdy hu.1 hu.2 hv) _ ⟨hentered, .inl ⟨.own (List.mem_cons_self ..), rfl⟩⟩ hrun).1,
      (runTo_clrOrder hrun).trans rfl⟩

/-- Settles O56: handler by handler. -/
theorem handlerFrame : Obligations.HandlerFrame := by
  unfold Obligations.HandlerFrame
  refine fun s t => ⟨fun e => ?_, fun e => ?_⟩
  · obtain ⟨hcfg, hboot, hcmds, hturns, hgrant⟩ := exec_fixed e
    obtain ⟨h, hclr⟩ := exec_txrdy_kept e
    exact ⟨h.rx, h.put, h.store, h.other .fg (by decide), h.other .rxi (by decide), h.rxiSw, h.other .call (by decide), hcfg,
      hboot, hclr, hcmds, hturns, hgrant, h.oracle⟩
  · obtain ⟨hcfg, hboot, hcmds, hturns, hgrant⟩ := exec_fixed e
    obtain ⟨h, hclr⟩ := exec_rxrdy_kept e
    exact ⟨h.tx, h.stalled, h.get, h.other .fg (by decide), h.other .txi (by decide), h.other .call (by decide), hcfg,
      hboot, hclr, hcmds, hturns, hgrant, h.slots⟩

end Sys2Proof.Machine
end

section
/-! TXRDY to its end, with data on a written slot and without data (R161, R187, R191). -/

namespace Sys2Proof.Machine

variable {w : Who} {s u : State} {v : Byte}

/-- A data write as one record update: recorded in the trace; with the reference peripheral the byte taken into an empty
register, or TX_DATA_OVERRUN recorded (R184, R191). -/
theorem State.writeData_eq (s : State) (a : Agent) (v : Byte) :
    s.writeData a v = { s with
      per :=
        if s.cfg.env = .reference ∧ s.per.txEmpty = true then { s.per with txLog := s.per.txLog ++ [v], txEmpty := false }
        else s.per
      markers :=
        if s.cfg.env = .reference ∧ s.per.txEmpty = false then (s.mark (.txDataOverrun v)).markers else s.markers
      trace := s.trace ++ [.called a (.writeDataRegister v)] } := by
  unfold State.writeData
  split
  next henv => simp [henv, State.logCall, State.emit]
  next henv =>
    split
    next hempty => simp [henv, hempty, State.logCall, State.emit, State.setPer]
    next hempty => simp [henv, hempty, State.logCall, State.emit, State.mark_eq_markers]

/-- TXRDY from T1 without data, to its end: the flag set, the acknowledgement (R161). -/
theorem runCtx_stallEmpty (hpc : (s.ctx w).pc = .t1) (hocc : s.occ .tx = 0) (n : Nat) :
    runCtx w (n + 3) s =
      .next (((((s.goto w .t4).setStalled true).goto w .t5).acknowledgeTransmit (s.agentOf w)).leaveHandler w) := by
  unfold runCtx
  rw [runTo_of_act (t := s.goto w .t4) (by simp [hpc]) (by simp [act, hpc, actT1, hocc]),
    runTo_of_act (t := ((s.goto w .t4).setStalled true).goto w .t5) (by simp) (by simp [act]),
    runTo_of_act (by simp) (by simp only [act, State.goto_ctx]; rfl), runTo_stop (by simp)]
  simp

/-- Settles O53: T1, T4 and T5. -/
theorem txrdyStallsOnAnEmptyQueue : Obligations.TxrdyStallsOnAnEmptyQueue := by
  unfold Obligations.TxrdyStallsOnAnEmptyQueue
  intro s hact hg hocc
  obtain ⟨n, hn⟩ := Nat.exists_eq_add_of_le' hg
  rw [exec_txrdy_of_noHandler hact, hn, runCtx_stallEmpty rfl (by simpa using hocc)]
  simp [State.enterHandler, State.acknowledgeTransmit, State.logCall, State.leaveHandler, State.goto, State.setCtx,
    State.emit, State.setStalled, State.setPer, handlerOf, hn]

/-- What TXRDY leaves from the state `u` its dequeue leaves: its entry recorded, the byte `v` written to the data register,
the interrupt acknowledged, and its context, `c` at the entry, back at rest (R161). -/
def State.sentByTxi (u : State) (c : Ctx) (v : Byte) : State :=
  { u with
    txi := { c with pc := .idle, sel := .tx, v := v, ret := .t3 }
    per := { (u.writeData .txi v).per with txIrq := false }
    markers := (u.writeData .txi v).markers
    trace := u.trace ++
      [.issued .txi .txrdy, .called .txi (.writeDataRegister v), .called .txi .acknowledgeTransmitInterrupt] }

theorem exec_txrdy_of_written (hact : s.handlerActive = false) (hg : 6 ≤ s.grant) (hocc : 0 < s.occ .tx)
    (hm : memRead s.tx.store s.tx.get.toNat = some v) (hu : s.advanceGet .tx = .next u) :
    exec .txrdy s = .next (u.sentByTxi s.txi v) := by
  obtain ⟨n, hn⟩ := Nat.exists_eq_add_of_le' hg
  have hget : ((((s.enterHandler .transmit .txrdy).callGet .txi .tx .t3).readSlot .txi .tx).goto .txi .g2).advanceGet .tx =
      .next ((u.emit (.issued .txi .txrdy)).setCtx .txi { s.txi with pc := .g2, sel := .tx, v := v, ret := .t3 }) :=
    State.get_of_written (f := .tx) hm hu .txi { s.txi with pc := .g1, sel := .tx, ret := .t3 } (.issued .txi .txrdy) .g2
  rw [exec_txrdy_of_noHandler hact, hn, runCtx_sendQueued rfl (by simpa using hocc) hget]
  simp [State.sentByTxi, State.writeData_eq, State.mark_eq_markers, State.acknowledgeTransmit, State.logCall,
    State.leaveHandler, State.goto, State.setCtx, State.emit, State.setPer]

/-- Settles O52: what the dequeue leaves, and then what the peripheral makes of the data write. -/
theorem txrdySendsOneByte : Obligations.TxrdySendsOneByte := by
  unfold Obligations.TxrdySendsOneByte
  intro s v hact hg hocc hcnt hm marked
  obtain ⟨u, hu⟩ := State.exists_advanceGet (f := .tx) hcnt
  obtain ⟨hcfg, hst, -, -, hper, -, -, -, htrace, -⟩ := State.advanceGet_frame hu
  obtain ⟨htx, -, hrx⟩ := State.advanceGet_dequeued hu
  have hmarkers : u.markers = marked := State.advanceGet_markers hu
  refine ⟨u.sentByTxi s.txi v, exec_txrdy_of_written hact hg hocc hm hu, htx, hst, rfl, State.advanceGet_ctx hu .fg,
    hrx .rx (by decide), rfl, by simp [State.sentByTxi, htrace], fun henv hempty => ?_, fun henv hempty => ?_,
    fun henv => ?_⟩
  · simp [State.sentByTxi, State.writeData_eq, hcfg, hper, henv, hempty, hmarkers]
  · simp [State.sentByTxi, State.writeData_eq, hcfg, hper, henv, hempty, hmarkers, State.mark_eq_markers]
  · simp [State.sentByTxi, State.writeData_eq, hcfg, hper, henv, hmarkers]

end Sys2Proof.Machine
end

section
/-! RXRDY to its end, with a good byte and with a line error (R162, R163, R164, R188, R202). -/

namespace Sys2Proof.Machine

variable {w : Who} {s : State}

/-! ### What the handler's operations write -/

@[simp] theorem State.agentOf_rxi (s : State) : s.agentOf .rxi = .rxi := rfl

@[simp] theorem State.enterHandler_statusAnswer (s : State) (src : IrqSource) (i : Instr) :
    (s.enterHandler src i).statusAnswer = s.statusAnswer := by
  simp [State.statusAnswer]

/-- The answer is latched (R162). -/
@[simp] theorem State.readStatus_rxiSw (s : State) (a : Agent) : (s.readStatus a).rxiSw = s.statusAnswer := by
  unfold State.readStatus
  split
  · rfl
  · split <;> rfl

@[simp] theorem State.readStatus_trace (s : State) (a : Agent) :
    (s.readStatus a).trace = s.trace ++ [.called a (.readStatusAndData s.statusAnswer)] := by
  unfold State.readStatus
  split
  · rfl
  · split <;> rfl

@[simp] theorem State.clearErrorLatch_per (s : State) (a : Agent) :
    (s.clearErrorLatch a).per = { s.per with errLatch := false } := rfl
@[simp] theorem State.clearErrorLatch_trace (s : State) (a : Agent) :
    (s.clearErrorLatch a).trace = s.trace ++ [.called a .clearReceiveErrorLatch] := rfl
@[simp] theorem State.acknowledgeReceive_per (s : State) (a : Agent) :
    (s.acknowledgeReceive a).per = { s.per with rxIrq := false } := rfl
@[simp] theorem State.acknowledgeReceive_trace (s : State) (a : Agent) :
    (s.acknowledgeReceive a).trace = s.trace ++ [.called a .acknowledgeReceiveInterrupt] := rfl
@[simp] theorem State.enterHandler_trace (s : State) (src : IrqSource) (i : Instr) :
    (s.enterHandler src i).trace = s.trace ++ [.issued (s.agentOf (handlerOf src)) i] := by
  simp [State.enterHandler]

/-- FPUT's two actions on its FIFO (R105, R109). -/
theorem State.put_fifo (s : State) (w : Who) (f : Sel) (v : Byte) :
    (((s.writeSlot f v).goto w .p2).advancePut f).fifo f =
      { get := (s.fifo f).get
        put := inc (s.mode f) (s.cap f) (s.fifo f).put
        store := memWrite (s.fifo f).store (s.fifo f).put.toNat v
        cnt := if (s.fifo f).cnt = s.cap f then s.cap f else (s.fifo f).cnt + 1 } := by
  rw [State.advancePut_eq]
  cases f <;> cases w <;> rfl

/-- FPUT's two actions on the markers (R35, R109). -/
theorem State.put_markers (s : State) (w : Who) (f : Sel) (v : Byte) :
    (((s.writeSlot f v).goto w .p2).advancePut f).markers =
      if (s.fifo f).cnt = s.cap f ∧ Marker.fifoOverflow f ∉ s.markers then s.markers ++ [.fifoOverflow f]
      else s.markers := by
  rw [State.advancePut_eq]
  cases f <;> cases w <;> rfl

theorem rxError_eq_false_iff {r : StatusWord} :
    rxError r = false ↔ r.oe = false ∧ r.fe = false ∧ r.pe = false ∧ r.sum = false := by
  simp [rxError, and_assoc]

theorem rxError_iff {r : StatusWord} : rxError r = true ↔ r.oe = true ∨ r.fe = true ∨ r.pe = true ∨ r.sum = true := by
  simp [rxError, or_assoc]

theorem exec_rxrdy_of_noHandler (h : s.handlerActive = false) :
    exec .rxrdy s = runCtx .rxi s.grant (s.enterHandler .receive .rxrdy) :=
  startHandler_of_noHandler h _ _

/-! ### A good byte -/

/-- The state at X3's call of FPUT with the byte just read (R162). -/
def State.putReceived (s : State) (w : Who) : State :=
  (s.readStatus (s.agentOf w)).callPut w .rx s.statusAnswer.data .x4

@[simp] theorem State.putReceived_ctx (s : State) (w : Who) :
    (s.putReceived w).ctx w = { s.ctx w with pc := .p1, sel := .rx, b := s.statusAnswer.data, ret := .x4 } := by
  simp [State.putReceived]

@[simp] theorem State.putReceived_cfg (s : State) (w : Who) : (s.putReceived w).cfg = s.cfg := by simp [State.putReceived]
@[simp] theorem State.putReceived_rx (s : State) (w : Who) : (s.putReceived w).rx = s.rx := by simp [State.putReceived]
@[simp] theorem State.putReceived_per (s : State) (w : Who) : (s.putReceived w).per = s.per := by simp [State.putReceived]
@[simp] theorem State.putReceived_markers (s : State) (w : Who) : (s.putReceived w).markers = s.markers := by
  simp [State.putReceived]
@[simp] theorem State.putReceived_trace (s : State) (w : Who) :
    (s.putReceived w).trace = s.trace ++ [.called (s.agentOf w) (.readStatusAndData s.statusAnswer)] := by
  simp [State.putReceived]
@[simp] theorem State.putReceived_agentOf (s : State) (w : Who) : (s.putReceived w).agentOf w = s.agentOf w := by
  simp [State.putReceived, State.callPut]

/-- RXRDY from X1 with a good byte, to its end: the status read, FPUT's two actions, the acknowledgement (R162). -/
theorem runCtx_enqueueReceived (hpc : (s.ctx w).pc = .x1) (hgood : rxError s.statusAnswer = false) (n : Nat) :
    runCtx w (n + 5) s = .next
      ((((((s.putReceived w).writeSlot .rx s.statusAnswer.data).goto w .p2).advancePut .rx).goto w .x4).acknowledgeReceive
        (s.agentOf w) |>.leaveHandler w) := by
  have hcall : ((s.readStatus (s.agentOf w)).goto w .x3).callPut w .rx s.statusAnswer.data .x4 = s.putReceived w := by
    simp [State.putReceived, State.callPut, State.goto]
  unfold runCtx
  rw [runTo_of_act (t := (s.readStatus (s.agentOf w)).goto w .x3) (by simp [hpc]) (by simp [act, hpc, actX1, hgood]),
    runTo_of_act (t := s.putReceived w) (by simp) (by simp [act, hcall]),
    runTo_of_act (t := ((s.putReceived w).writeSlot .rx s.statusAnswer.data).goto w .p2) (by simp) (by simp [act]),
    runTo_of_act (t := (((s.putReceived w).writeSlot .rx s.statusAnswer.data).goto w .p2).advancePut .rx |>.goto w .x4)
      (by simp) (by simp [act, State.ret]),
    runTo_of_act (by simp) (by simp only [act, State.goto_ctx]; rfl), runTo_stop (by simp)]
  simp

/-- Settles O54: the frame, what FPUT's two actions leave, and the two surface calls. -/
theorem rxrdyEnqueuesAGoodByte : Obligations.RxrdyEnqueuesAGoodByte := by
  unfold Obligations.RxrdyEnqueuesAGoodByte
  intro s hact hg hoe hfe hpe hsum
  obtain ⟨n, hn⟩ := Nat.exists_eq_add_of_le' hg
  have hgood : rxError s.statusAnswer = false := rxError_eq_false_iff.mpr ⟨hoe, hfe, hpe, hsum⟩
  have e := runCtx_enqueueReceived (w := .rxi) (s := s.enterHandler .receive .rxrdy) rfl (by simpa using hgood) n
  rw [← hn, ← exec_rxrdy_of_noHandler hact, State.enterHandler_statusAnswer] at e
  obtain ⟨h, -⟩ := exec_rxrdy_kept e
  have hfifo := State.put_fifo ((s.enterHandler .receive .rxrdy).putReceived .rxi) .rxi .rx s.statusAnswer.data
  have hmarkers := State.put_markers ((s.enterHandler .receive .rxrdy).putReceived .rxi) .rxi .rx s.statusAnswer.data
  refine ⟨_, e, ?_, h.tx, h.stalled, congrArg Ctx.pc (State.leaveHandler_ctx _ .rxi), h.other .fg (by decide), by simp,
    by simp [handlerOf], fun hc => ?_, fun hc => ?_⟩
  · simpa [State.mode, Cfg.mode] using hfifo
  · simp [hmarkers, hc]
  · simp [hmarkers, hc, apply_ite (Marker.fifoOverflow .rx ∈ ·)]

/-! ### A line error -/

/-- RXRDY from X1 with a line error, to its end: the status read, the latch cleared, the acknowledgement (R162, R202). -/
theorem runCtx_dropReceived (hpc : (s.ctx w).pc = .x1) (herr : rxError s.statusAnswer = true) (n : Nat) :
    runCtx w (n + 3) s = .next
      ((((((s.readStatus (s.agentOf w)).goto w .x2).clearErrorLatch (s.agentOf w)).mark (.rxLineError s.statusAnswer)).goto w
        .x4).acknowledgeReceive (s.agentOf w) |>.leaveHandler w) := by
  unfold runCtx
  rw [runTo_of_act (t := (s.readStatus (s.agentOf w)).goto w .x2) (by simp [hpc]) (by simp [act, hpc, actX1, herr]),
    runTo_of_act (t := ((((s.readStatus (s.agentOf w)).goto w .x2).clearErrorLatch (s.agentOf w)).mark
      (.rxLineError s.statusAnswer)).goto w .x4) (by simp) (by simp [act, actX2]),
    runTo_of_act (by simp) (by simp only [act, State.goto_ctx]; rfl), runTo_stop (by simp)]
  simp

/-- Settles O55: X1, X2 and X4. -/
theorem rxrdyDropsAByteWithAnErrorFlag : Obligations.RxrdyDropsAByteWithAnErrorFlag := by
  unfold Obligations.RxrdyDropsAByteWithAnErrorFlag
  intro s hact hg hflag
  obtain ⟨n, hn⟩ := Nat.exists_eq_add_of_le' hg
  have herr : rxError s.statusAnswer = true := rxError_iff.mpr hflag
  have e := runCtx_dropReceived (w := .rxi) (s := s.enterHandler .receive .rxrdy) rfl (by simpa using herr) n
  rw [← hn, ← exec_rxrdy_of_noHandler hact] at e
  obtain ⟨h, -⟩ := exec_rxrdy_kept e
  exact ⟨_, e, by simp, h.tx, h.stalled, congrArg Ctx.pc (State.leaveHandler_ctx _ .rxi), h.other .fg (by decide), by simp,
    by simp [State.mem_markers_mark], by simp [handlerOf]⟩

end Sys2Proof.Machine
end

section
/-! PER's own steps in either environment (R190 b, R191; log 12), and the turn of the schedule that lets PER take one (log 1). -/

namespace Sys2Proof.Machine

/-! ### The reference peripheral's steps (R191) -/

theorem State.perStep_txDone_of_full {s : State} (he : s.cfg.env = .reference) (hfull : s.per.txEmpty = false) :
    s.perStep .txDone = s.setPer { s.per with txEmpty := true, txIrq := true } := by
  simp [State.perStep, he, hfull]

theorem State.perStep_txDone_of_txEmpty {s : State} (he : s.cfg.env = .reference) (hempty : s.per.txEmpty = true) :
    s.perStep .txDone = s := by
  simp [State.perStep, he, hempty]

theorem State.perStep_rxArrive_of_frame {s : State} {w : StatusWord} {ws : List StatusWord} (he : s.cfg.env = .reference)
    (hfeed : s.per.rxFeed = w :: ws) (hirq : s.per.rxIrq = false) :
    s.perStep .rxArrive =
      s.setPer { s.per with rxWord := w, rxFeed := ws, rxIrq := true, errLatch := s.per.errLatch || rxError w } := by
  simp [State.perStep, he, hfeed, hirq]

/-- RX_ARRIVE needs a frame in the script and receive-ready not pending. -/
theorem State.perStep_rxArrive_of_disabled {s : State} (he : s.cfg.env = .reference)
    (hdis : s.per.rxFeed = [] ∨ s.per.rxIrq = true) : s.perStep .rxArrive = s := by
  obtain hfeed | hirq := hdis
  · simp [State.perStep, he, hfeed]
  · cases hfeed : s.per.rxFeed <;> simp [State.perStep, he, hfeed, hirq]

/-! ### The oracle's steps (R190 b) -/

theorem State.perStep_raiseTransmit_of_oracle {s : State} (he : s.cfg.env = .oracle) :
    s.perStep .raiseTransmit = s.setPer { s.per with txIrq := true } := by
  simp [State.perStep, he]

theorem State.perStep_raiseReceive_of_oracle {s : State} (he : s.cfg.env = .oracle) :
    s.perStep .raiseReceive = s.setPer { s.per with rxIrq := true } := by
  simp [State.perStep, he]

/-! ### A step of the other environment (log 12) -/

theorem State.perStep_of_oracle {s : State} {p : PerStep} (he : s.cfg.env = .oracle) (hp : p = .txDone ∨ p = .rxArrive) :
    s.perStep p = s := by
  obtain rfl | rfl := hp <;> simp [State.perStep, he]

theorem State.perStep_of_reference {s : State} {p : PerStep} (he : s.cfg.env = .reference)
    (hp : p = .raiseTransmit ∨ p = .raiseReceive) : s.perStep p = s := by
  obtain rfl | rfl := hp <;> simp [State.perStep, he]

/-! ### The turn -/

/-- A step of PER's own writes the peripheral and nothing else. -/
theorem State.perStep_eq_setPer (s : State) (p : PerStep) : s.perStep p = s.setPer (s.perStep p).per := by
  unfold State.perStep
  split
  · split <;> rfl
  · split
    · rfl
    · split <;> rfl
  all_goals rfl

theorem step_peripheral {s : State} {p : PerStep} {rest : List Turn} (hw : s.cfg.wellFormed = true)
    (ht : s.turns = .peripheral p :: rest) : step s = .next ((s.takeTurn rest 0).perStep p) :=
  step_of_turns_cons hw ht

/-- Settles O60: a peripheral turn is PER's own step on the state without the schedule entry. -/
theorem peripheralStepsOfItsOwn : Obligations.PeripheralStepsOfItsOwn := by
  unfold Obligations.PeripheralStepsOfItsOwn
  intro s p rest hw ht
  have hstep : step s = .next ((s.takeTurn rest 0).setPer ((s.takeTurn rest 0).perStep p).per) := by
    rw [step_peripheral hw ht, ← State.perStep_eq_setPer]
  have hkept (h : (s.takeTurn rest 0).perStep p = s.takeTurn rest 0) : ((s.takeTurn rest 0).perStep p).per = s.per := by
    rw [h, State.takeTurn_per]
  refine ⟨_, hstep, ?txDone, ?txDoneDisabled, ?rxArrive, ?rxArriveDisabled, ?raiseTransmit, ?raiseReceive, ?ofOracle,
    ?ofReference⟩
  case txDone =>
    rintro he rfl hfull
    exact congrArg State.per (State.perStep_txDone_of_full (s := s.takeTurn rest 0) he hfull)
  case txDoneDisabled =>
    rintro he rfl hempty
    exact hkept (State.perStep_txDone_of_txEmpty he hempty)
  case rxArrive =>
    rintro w ws he rfl hfeed hirq
    exact congrArg State.per (State.perStep_rxArrive_of_frame (s := s.takeTurn rest 0) he hfeed hirq)
  case rxArriveDisabled =>
    rintro he rfl hdis
    exact hkept (State.perStep_rxArrive_of_disabled he hdis)
  case raiseTransmit =>
    rintro he rfl
    exact congrArg State.per (State.perStep_raiseTransmit_of_oracle (s := s.takeTurn rest 0) he)
  case raiseReceive =>
    rintro he rfl
    exact congrArg State.per (State.perStep_raiseReceive_of_oracle (s := s.takeTurn rest 0) he)
  case ofOracle => exact fun he hp => hkept (State.perStep_of_oracle he hp)
  case ofReference => exact fun he hp => hkept (State.perStep_of_reference he hp)

end Sys2Proof.Machine
end

section
/-! The interrupt controller's turn and interrupt entry (R208, R210), and WRITE refused in handler context (R216). -/

namespace Sys2Proof.Machine

/-- A source's entry point is the start of its handler (R160). -/
theorem exec_commandOf (src : IrqSource) (s : State) : exec (commandOf src) s = startHandler src (commandOf src) s := by
  cases src <;> rfl

theorem State.startable_iff {s : State} {src : IrqSource} :
    s.startable src = true ↔
      (s.pending src && s.enabled src && s.wired src) = true ∧ s.txi.pc = .idle ∧ s.rxi.pc = .idle := by
  simp [State.startable, State.handlerActive_eq_false_iff, and_assoc]

/-- Settles O9: the interrupt's turn tests whether the handler is startable, source by source. -/
theorem interruptTurnStartsOnlyAStartableHandler : Obligations.InterruptTurnStartsOnlyAStartableHandler := by
  unfold Obligations.InterruptTurnStartsOnlyAStartableHandler
  intro s src n rest hw ht
  calc step s = interruptTurn src (s.takeTurn rest n) := step_of_turns_cons hw ht
    _ = _ := by cases src <;> exact if_congr State.startable_iff rfl rfl

/-- Interrupt entry with no action granted is the entry alone (R210). -/
theorem exec_commandOf_of_no_grant {s : State} (h : s.handlerActive = false) (hg : s.grant = 0) (src : IrqSource) :
    exec (commandOf src) s = .next (s.enterHandler src (commandOf src)) := by
  rw [exec_commandOf, startHandler_of_noHandler h, hg, runCtx_zero]

/-- Settles O10: with no action granted the entry is all there is, for either source. -/
theorem interruptEntrySetsOnlyTheHandlersPhase : Obligations.InterruptEntrySetsOnlyTheHandlersPhase := by
  unfold Obligations.InterruptEntrySetsOnlyTheHandlersPhase
  intro s htxi hrxi hg
  have h : s.handlerActive = false := State.handlerActive_eq_false_iff.2 ⟨htxi, hrxi⟩
  exact ⟨exec_commandOf_of_no_grant h hg .transmit, exec_commandOf_of_no_grant h hg .receive⟩

theorem exec_write_of_handlerActive {s : State} (h : s.handlerActive = true) (b : Byte) :
    exec (.write b) s = .next (s.mark (.contextViolation (.write b))) :=
  if_pos h

/-- Settles O43: WRITE met while a handler is active is its marker alone. -/
theorem writeInHandlerContextIsRefused : Obligations.WriteInHandlerContextIsRefused := by
  unfold Obligations.WriteInHandlerContextIsRefused
  intro s b h
  rw [exec_write_of_handlerActive h, State.mark_eq_markers]

end Sys2Proof.Machine
end

section
/-! The foreground's context over the turns of the other agents (R210). -/

namespace Sys2Proof.Machine

variable {s t : State}

/-- A slice of a context's actions leaves every other context as it was (R210). -/
theorem runTo_other {stop : Phase} {w x : Who} (hx : x ≠ w) {n : Nat} (e : runTo stop w n s = .next t) :
    t.ctx x = s.ctx x :=
  runTo_keeps (P := fun u => u.ctx x = s.ctx x) (fun _ _ hu hv => (act_other hx hv).trans hu) n rfl e

theorem State.activeHandler_ne_fg (s : State) : .fg ≠ s.activeHandler := by
  rcases s.activeHandler_eq with h | h <;> simp [h]

/-- No command issued in handler context touches the foreground's context (R133, R210). -/
theorem exec_fg_of_handlerActive {i : Instr} (ha : s.handlerActive = true) (e : exec i s = .next t) :
    t.ctx .fg = s.ctx .fg := by
  have hresumer : Who.fg ≠ s.resumer := by simpa [State.resumer, ha] using s.activeHandler_ne_fg
  have hissuer : Who.fg ≠ s.issuer := by simp [State.issuer, ha]
  rcases exec_next e with ⟨-, -, rfl⟩ | ⟨b, -, -, rfl⟩ | ⟨r, -, -, rfl⟩ | ⟨src, -, hn, -⟩ | ⟨-, -, e⟩ |
    ⟨u, hu, -, -, -, -, -, -, -, e⟩
  · rfl
  · simp
  · rfl
  · simp [ha] at hn
  · exact (runTo_other hresumer e).trans (State.ctx_setCtx_other s _ hresumer)
  · have hctx : u.ctx .fg = s.ctx .fg := by rcases hu with rfl | ⟨-, rfl⟩ <;> rfl
    exact ((runTo_other hissuer e).trans (State.ctx_setCtx_other u _ hissuer)).trans hctx

theorem issueWord_fg_of_handlerActive {w : Word16} (ha : s.handlerActive = true) (e : issueWord w s = .next t) :
    t.ctx .fg = s.ctx .fg := by
  rcases issueWord_next e with ⟨i, -, e⟩ | ⟨-, -, rfl⟩
  · exact exec_fg_of_handlerActive ha e
  · simp

/-- A handler's start leaves every context but its own as it was (R210). -/
theorem exec_commandOf_other {src : IrqSource} {x : Who} (hx : x ≠ handlerOf src)
    (e : exec (commandOf src) s = .next t) : t.ctx x = s.ctx x := by
  rw [exec_commandOf] at e
  rcases startHandler_next e with ⟨-, rfl⟩ | ⟨-, e⟩
  · rfl
  · exact (runTo_other hx e).trans (State.enterHandler_other s hx _)

@[simp] theorem runBoot_ctx (n : Nat) (s : State) (w : Who) : (runBoot n s).ctx w = s.ctx w :=
  runBoot_keeps (P := fun u => u.ctx w = s.ctx w) (fun hu => (bootAct_ctx _ w).trans hu) n rfl

/-- Settles O13: turn by turn, every slice is one of another context. -/
theorem onlyTheForegroundMovesItsContext : Obligations.OnlyTheForegroundMovesItsContext := by
  unfold Obligations.OnlyTheForegroundMovesItsContext
  intro s t turn rest hts hnot e
  obtain ⟨-, ⟨hnil, -⟩ | ⟨turn', rest', hts', e⟩⟩ := step_next e
  · simp [hnil] at hts
  obtain ⟨rfl, rfl⟩ : turn = turn' ∧ rest = rest' := by simpa [hts] using hts'
  rcases e with ⟨n, rfl⟩ | ⟨n, w, cs, hfg, -⟩ | ⟨n, hfg, -⟩ | ⟨n, -, -, -, e⟩ | ⟨n, -, -, -, e⟩ | ⟨src, n, -, -, e⟩ |
    ⟨w, n, -, ha, -, e⟩ | ⟨q, -, rfl⟩ | ⟨n, -, -, rfl⟩
  · rfl
  · exact absurd hfg (hnot n)
  · exact absurd hfg (hnot n)
  · exact (runTo_other (s.activeHandler_ne_fg) e :)
  · exact (runTo_other (x := .fg) (by decide) e :)
  · exact (exec_commandOf_other (x := .fg) (by cases src <;> decide) e :)
  · exact (issueWord_fg_of_handlerActive (by simpa using ha) e :)
  · simp
  · exact runBoot_ctx n (s.takeTurn rest n) .fg

end Sys2Proof.Machine
end

section
/-! The markers and the trace over a step (R35, R206). -/

namespace Sys2Proof.Machine

/-- Markers are sticky and the trace grows at its end (R35, R206). -/
structure Grows (s t : State) : Prop where
  markers : ∀ m ∈ s.markers, m ∈ t.markers
  trace : s.trace <+: t.trace

variable {s t u : State}

theorem Grows.of_eq (hm : t.markers = s.markers) (ht : t.trace = s.trace) : Grows s t where
  markers _ h := hm ▸ h
  trace := by rw [ht]

/-- One event more (R35). -/
theorem Grows.of_append {e : Event} (hm : t.markers = s.markers) (ht : t.trace = s.trace ++ [e]) : Grows s t where
  markers _ h := hm ▸ h
  trace := by simp [ht]

theorem Grows.refl (s : State) : Grows s s := .of_eq rfl rfl

theorem Grows.trans (h : Grows s t) (k : Grows t u) : Grows s u where
  markers m hm := k.markers m (h.markers m hm)
  trace := h.trace.trans k.trace

theorem Grows.emit (s : State) (e : Event) : Grows s (s.emit e) := .of_append rfl rfl

theorem Grows.mark (s : State) (m : Marker) : Grows s (s.mark m) where
  markers k h := (State.mem_markers_mark s m k).2 (.inl h)
  trace := by simp

theorem Grows.setCtx (s : State) (w : Who) (c : Ctx) : Grows s (s.setCtx w c) := .of_eq (by simp) (by simp)

/-! ### An action -/

theorem finishGet_trace_grows (w : Who) (s : State) : s.trace <+: (finishGet w s).trace := by
  unfold finishGet
  split <;> simp

/-- An action only appends to the trace (R35). -/
theorem act_trace_grows {w : Who} (e : act w s = .next t) : s.trace <+: t.trace := by
  have hadv : ∀ {f : Sel} {k : State → State}, (∀ u, u.trace <+: (k u).trace) → actAdvance f k s = .next t →
      s.trace <+: t.trace := by
    intro f k hk ha
    obtain ⟨u, hu, rfl⟩ := actAdvance_next ha
    obtain ⟨-, -, -, -, -, -, -, -, htrace, -⟩ := State.advanceGet_frame hu
    exact htrace ▸ hk u
  cases hpc : (s.ctx w).pc <;> simp only [act, hpc] at e
  case s5 => exact hadv (by simp) e
  case d2 => exact hadv (by simp [finishRead]) e
  case g2 => exact hadv (finishGet_trace_grows w) e
  all_goals
    obtain rfl := Host.Outcome.next.inj e
    simp [actW1, actW3, actS1, actS2, actS3, actT1, actX1, actX2, State.acknowledgeTransmit, State.logCall,
      apply_ite State.trace]

theorem act_grows {w : Who} (e : act w s = .next t) : Grows s t := ⟨fun _ => act_mem_markers e, act_trace_grows e⟩

/-! ### Slices, commands, construction -/

theorem runTo_grows {stop : Phase} {w : Who} {n : Nat} (e : runTo stop w n s = .next t) : Grows s t :=
  runTo_keeps (P := Grows s) (fun _ _ hu hv => hu.trans (act_grows hv)) n (.refl s) e

/-- A context entered, the issue recorded, and a slice of its actions (R61, R133, R210). -/
theorem enter_runTo_grows {stop : Phase} {w : Who} {c : Ctx} {ev : Event} {n : Nat}
    (e : runTo stop w n ((s.setCtx w c).emit ev) = .next t) : Grows s t :=
  (Grows.setCtx s w c).trans ((Grows.emit _ ev).trans (runTo_grows e))

theorem exec_grows {i : Instr} (e : exec i s = .next t) : Grows s t := by
  rcases exec_next e with ⟨-, -, rfl⟩ | ⟨b, -, -, rfl⟩ | ⟨r, -, -, rfl⟩ | ⟨src, -, -, e⟩ | ⟨-, -, e⟩ |
    ⟨u, hu, -, -, -, -, -, -, -, e⟩
  · exact .refl t
  · exact .mark s _
  · exact (Grows.emit s _).trans (.emit _ _)
  · exact enter_runTo_grows e
  · exact enter_runTo_grows e
  · have hpop : Grows s u := by rcases hu with rfl | ⟨-, rfl⟩ <;> exact .of_eq rfl rfl
    exact hpop.trans (enter_runTo_grows e)

theorem issueWord_grows {w : Word16} (e : issueWord w s = .next t) : Grows s t := by
  rcases issueWord_next e with ⟨i, -, e⟩ | ⟨-, -, rfl⟩
  · exact exec_grows e
  · exact .mark s _

/-- An action of construction records its surface call or writes neither (R35, R230). -/
theorem bootAct_grows (s : State) : Grows s (bootAct s) := by
  unfold bootAct
  cases s.boot
  case configure | k4 | k5 => exact .of_append rfl rfl
  all_goals exact .of_eq rfl rfl

theorem runBoot_grows (n : Nat) (s : State) : Grows s (runBoot n s) :=
  runBoot_keeps (P := Grows s) (fun {u} hu => hu.trans (bootAct_grows u)) n (.refl s)

theorem step_grows (e : step s = .next t) : Grows s t := by
  obtain ⟨-, ⟨-, rfl⟩ | ⟨turn, rest, -, e⟩⟩ := step_next e
  · exact .refl t
  have hturn : ∀ n, Grows s (s.takeTurn rest n) := fun _ => .of_eq rfl rfl
  rcases e with ⟨n, rfl⟩ | ⟨n, w, cs, -, -, -, -, -, e⟩ | ⟨n, -, -, -, -, e⟩ | ⟨n, -, -, -, e⟩ | ⟨n, -, -, -, e⟩ |
    ⟨src, n, -, -, e⟩ | ⟨w, n, -, -, -, e⟩ | ⟨q, -, rfl⟩ | ⟨n, -, -, rfl⟩
  · exact hturn n
  · have hcommand : Grows s ((s.takeTurn rest n).takeCommand cs) := .of_eq rfl rfl
    exact hcommand.trans (issueWord_grows e)
  · exact (hturn n).trans (runTo_grows e)
  · exact (hturn n).trans (runTo_grows e)
  · exact (hturn n).trans (runTo_grows e)
  · exact (hturn n).trans (exec_grows e)
  · exact (hturn n).trans (issueWord_grows e)
  · exact .of_eq (by simp) (by simp)
  · exact (hturn n).trans (runBoot_grows n _)

/-- Settles O20: every part of a step keeps the markers and only appends to the trace. -/
theorem markersAndTraceOnlyGrow : Obligations.MarkersAndTraceOnlyGrow := by
  unfold Obligations.MarkersAndTraceOnlyGrow
  intro s t e
  obtain ⟨hmarkers, htrace⟩ := step_grows e
  exact ⟨hmarkers, htrace⟩

end Sys2Proof.Machine
end

section
/-! A step of a buildable machine goes on (R111, R200): a slice stops only by the `fault` policy on an empty FIFO, and `step`
issues a command only where it can be issued (log 5). -/

namespace Sys2Proof.Machine

/-- The answers a part of a step can give under the policy `p`: a next state, or the fault of an empty get when the policy
says so (R111, R200). -/
def GoesOn (p : EmptyGetPolicy) (r : Result) : Prop :=
  (∃ t, r = .next t) ∨ p = .fault ∧ ∃ f, r = .fault (.emptyGet f)

theorem GoesOn.next {p : EmptyGetPolicy} (t : State) : GoesOn p (.next t) := .inl ⟨t, rfl⟩

variable {s : State}

/-! ### Slices -/

theorem act_goesOn (w : Who) (s : State) : GoesOn s.cfg.emptyGet (act w s) := by
  cases h : act w s with
  | next t => exact .next t
  | fault e =>
    obtain ⟨hp, f, rfl⟩ := act_fault h
    exact .inr ⟨hp, f, rfl⟩
  | refused e => exact absurd h act_refused

theorem runTo_goesOn (stop : Phase) (w : Who) (n : Nat) : ∀ s : State, GoesOn s.cfg.emptyGet (runTo stop w n s) := by
  induction n with
  | zero => exact fun s => .next s
  | succ m ih =>
    intro s
    rw [runTo_succ]
    split
    · exact .next s
    · rcases act_goesOn w s with ⟨u, hu⟩ | ⟨hp, f, hf⟩
      · obtain ⟨hcfg, -⟩ := act_fixed hu
        rw [hu, andThen_next, ← hcfg]
        exact ih u
      · exact .inr ⟨hp, f, by rw [hf, andThen_fault]⟩

theorem runCtx_goesOn (w : Who) (n : Nat) (s : State) : GoesOn s.cfg.emptyGet (runCtx w n s) := runTo_goesOn .idle w n s

/-! ### Commands -/

theorem issue_goesOn (hidle : (s.ctx s.issuer).pc = .idle) (i : Instr) (enter : Ctx → Ctx) :
    GoesOn s.cfg.emptyGet (issue i enter s) := by
  rw [issue, if_pos hidle]
  simpa using runCtx_goesOn s.issuer s.grant
    ((s.setCtx s.issuer (enter (s.ctx s.issuer))).emit (.issued (s.agentOf s.issuer) i))

theorem answer_goesOn (hidle : (s.ctx s.issuer).pc = .idle) (i : Instr) (r : Word16) :
    GoesOn s.cfg.emptyGet (answer i r s) :=
  answer_of_idle hidle i r ▸ .next _

theorem startHandler_goesOn (src : IrqSource) (i : Instr) (s : State) : GoesOn s.cfg.emptyGet (startHandler src i s) := by
  unfold startHandler
  split
  · exact .next s
  · simpa [State.enterHandler] using runCtx_goesOn (handlerOf src) s.grant (s.enterHandler src i)

/-- A command goes on where its context is at rest and RESUME can be issued (log 5). -/
theorem exec_goesOn (hidle : (s.ctx s.issuer).pc = .idle) (hcan : s.canResume = true) (i : Instr) :
    GoesOn s.cfg.emptyGet (exec i s) := by
  cases i with
  | fclr f => exact issue_goesOn (s := s.popClrOrder) (by simpa using hidle) (.fclr f) (entryOf (.fclr f) s)
  | fput f v => exact issue_goesOn hidle (.fput f v) (entryOf (.fput f v) s)
  | fget f => exact issue_goesOn hidle (.fget f) (entryOf (.fget f) s)
  | read => exact issue_goesOn hidle .read (entryOf .read s)
  | flen | fsiz | avail => exact answer_goesOn hidle _ _
  | txrdy | rxrdy => exact startHandler_goesOn _ _ s
  | write b =>
    cases ha : s.handlerActive with
    | true => exact exec_write_of_handlerActive ha b ▸ .next _
    | false =>
      have hexec : exec (.write b) s = issue (.write b) (entryOf (.write b) s) s := if_neg (by simp [ha])
      exact hexec ▸ issue_goesOn hidle _ _
  | resume =>
    rw [exec_resume_of_canResume hcan]
    simpa using runTo_goesOn (s.ctx s.resumer).pc s.resumer s.grant
      ((s.callResume s.resumer (s.ctx s.resumer).pc).emit (.issued (s.agentOf s.resumer) .resume))

theorem issueWord_goesOn (hidle : (s.ctx s.issuer).pc = .idle) (hcan : s.canResume = true) (w : Word16) :
    GoesOn s.cfg.emptyGet (issueWord w s) := by
  unfold issueWord
  split
  · exact exec_goesOn hidle hcan _
  · exact .next _

/-- The foreground at rest can issue any command (R61). -/
theorem issueWord_goesOn_of_ready (h : s.ready = true) (w : Word16) : GoesOn s.cfg.emptyGet (issueWord w s) := by
  obtain ⟨-, hpc⟩ := State.ready_iff.1 h
  obtain ⟨hcan, -⟩ := State.canResume_of_ready h
  exact issueWord_goesOn (by simpa [State.issuer_of_ready h] using hpc) hcan w

/-- Handler code between two of the handler's own phases can issue any command (R89, R133; log 5). -/
theorem issueWord_goesOn_of_handlerFree (ha : s.handlerActive = true) (hf : s.handlerFree = true) (w : Word16) :
    GoesOn s.cfg.emptyGet (issueWord w s) := by
  have hcall : s.call.pc = .idle := by
    simp only [State.handlerFree, Bool.and_eq_true, beq_iff_eq] at hf
    exact hf.2
  exact issueWord_goesOn (by simpa [State.issuer, ha] using hcall) (by simpa [State.canResume, ha] using hf) w

/-! ### Turns -/

theorem foregroundTurn_goesOn (n : Nat) (s : State) : GoesOn s.cfg.emptyGet (foregroundTurn n s) := by
  unfold foregroundTurn
  split
  · exact .next s
  next hmay =>
    split
    next hpc =>
      split
      · exact .next s
      next w cs _ =>
        have hready : (s.takeCommand cs).ready = true := by
          simp only [Bool.or_eq_true, not_or, Bool.not_eq_true] at hmay
          obtain ⟨hact, -⟩ := hmay
          exact State.ready_iff.2 ⟨by simpa using hact, hpc⟩
        exact (issueWord_goesOn_of_ready hready w :)
    next => exact runCtx_goesOn .fg n s

theorem handlerTurn_goesOn (n : Nat) (s : State) : GoesOn s.cfg.emptyGet (handlerTurn n s) := by
  unfold handlerTurn
  split
  · exact .next s
  · split
    · exact runCtx_goesOn _ n s
    · exact runCtx_goesOn .call n s

theorem interruptTurn_goesOn (src : IrqSource) (s : State) : GoesOn s.cfg.emptyGet (interruptTurn src s) := by
  unfold interruptTurn
  split
  · exact exec_commandOf src s ▸ startHandler_goesOn src _ s
  · exact .next s

theorem handlerCommandTurn_goesOn (w : Word16) (s : State) : GoesOn s.cfg.emptyGet (handlerCommandTurn w s) := by
  unfold handlerCommandTurn
  split
  next h =>
    obtain ⟨ha, hf⟩ := Bool.and_eq_true_iff.1 h
    exact issueWord_goesOn_of_handlerFree ha hf w
  next => exact .next s

theorem bootTurn_goesOn (n : Nat) (s : State) : GoesOn s.cfg.emptyGet (bootTurn n s) := by
  unfold bootTurn
  split
  · exact .next s
  · exact .next _

theorem takeTurn_goesOn (turn : Turn) (rest : List Turn) (s : State) : GoesOn s.cfg.emptyGet (takeTurn turn rest s) := by
  cases turn with
  | foreground n => exact foregroundTurn_goesOn n (s.takeTurn rest n)
  | handler n => exact handlerTurn_goesOn n (s.takeTurn rest n)
  | interrupt src n => exact interruptTurn_goesOn src (s.takeTurn rest n)
  | handlerCommand w n => exact handlerCommandTurn_goesOn w (s.takeTurn rest n)
  | peripheral p => exact .next _
  | boot n => exact bootTurn_goesOn n (s.takeTurn rest n)

theorem step_goesOn (hw : s.cfg.wellFormed = true) : GoesOn s.cfg.emptyGet (step s) := by
  rw [step, stepMachine, if_pos hw]
  split
  · exact .next s
  · exact takeTurn_goesOn _ _ s

/-- Settles O14: under `stale` the fault is out, and under `fault` both answers are left. -/
theorem stepAlwaysGoesOn : Obligations.StepAlwaysGoesOn := by
  unfold Obligations.StepAlwaysGoesOn
  refine fun s hw => ⟨fun hp => ?_, fun _ => (step_goesOn hw).imp_right And.right⟩
  rcases step_goesOn hw with hnext | ⟨hp', -⟩
  · exact hnext
  · simp [hp] at hp'

end Sys2Proof.Machine
end

section
/-! The configurations R244 refuses: what makes one buildable, and that nothing else is refused (R101). -/

namespace Sys2Proof.Machine

theorem capacityOk_iff {c : Nat} : capacityOk c = true ↔ 1 ≤ c ∧ c ≤ 256 := by
  simp [capacityOk]

/-- The capacities of the mask form are all the powers of two an index register can serve (R101). -/
theorem isPowerOfTwo_iff {c : Nat} (hc : c ≤ 256) : isPowerOfTwo c = true ↔ ∃ k, c = 2 ^ k := by
  refine ⟨fun h => (isPowerOfTwo_eq_two_pow h).imp fun _ => And.right, ?_⟩
  rintro ⟨k, rfl⟩
  have hk : k ≤ 8 := (Nat.pow_le_pow_iff_right (by decide)).1 hc
  interval_cases k <;> decide

theorem modeOk_iff {m : IndexMode} {c : Nat} (hc : c ≤ 256) : modeOk m c = true ↔ (m = .mask → ∃ k, c = 2 ^ k) := by
  cases m with
  | mask => simpa [modeOk] using isPowerOfTwo_iff hc
  | modulo => simp [modeOk]

/-- A configuration is buildable when both capacities are in range and the mask form stands on powers of two only. -/
theorem Cfg.wellFormed_iff {c : Cfg} :
    c.wellFormed = true ↔
      (1 ≤ c.capTx ∧ c.capTx ≤ 256) ∧ (1 ≤ c.capRx ∧ c.capRx ≤ 256) ∧
      (c.modeTx = .mask → ∃ k, c.capTx = 2 ^ k) ∧ (c.modeRx = .mask → ∃ k, c.capRx = 2 ^ k) := by
  simp only [Cfg.wellFormed, Bool.and_eq_true, capacityOk_iff, and_assoc]
  refine and_congr_right fun _ => and_congr_right fun htx => and_congr_right fun _ => and_congr_right fun hrx => ?_
  rw [modeOk_iff htx, modeOk_iff hrx]

/-- A step refuses the configuration exactly when it is not buildable: in a buildable one it goes on (R200, R244). -/
theorem step_eq_badConfiguration_iff {s : State} : step s = .refused .badConfiguration ↔ ¬ s.cfg.wellFormed = true := by
  refine ⟨fun h hw => ?_, fun hw => by rw [step, stepMachine, if_neg hw]⟩
  rcases step_goesOn hw with ⟨t, ht⟩ | ⟨-, f, hf⟩
  · simp [h] at ht
  · simp [h] at hf

/-- Settles O15: the refused configurations are the ones that are not buildable. -/
theorem badConfigurationIsRefused : Obligations.BadConfigurationIsRefused := by
  unfold Obligations.BadConfigurationIsRefused
  exact fun s => step_eq_badConfiguration_iff.trans (not_congr Cfg.wellFormed_iff)

end Sys2Proof.Machine
end

section
/-! Construction, K1 to K5 (R230). -/

namespace Sys2Proof.Machine

variable {s : State}

theorem runBoot_succ (n : Nat) (s : State) : runBoot (n + 1) s = runBoot n (bootAct s) := rfl

/-- K1 and K2 clear both FIFOs' indices and counts and leave their storage. -/
theorem runBoot_k1_k2 (hb : s.boot = .k1get) (n : Nat) :
    runBoot (n + 4) s = runBoot n { s with
      tx := { s.tx with get := 0, put := 0, cnt := 0 }
      rx := { s.rx with get := 0, put := 0, cnt := 0 }
      boot := .k3 } := by
  simp [runBoot_succ, bootAct, hb, State.clearGet, State.clearPut, State.setFifo, State.setBoot]

/-- K3 to K5 set the flag and enable receive and then transmit. -/
theorem runBoot_k3_k4_k5 (hb : s.boot = .k3) (n : Nat) :
    runBoot (n + 3) s = runBoot n { s with
      stalled := true
      per := { s.per with ienRx := true, ienTx := true }
      boot := .done
      trace := s.trace ++ [.called .boot (.enableReceiveInterrupt s.cfg.priRx),
        .called .boot (.enableTransmitInterrupt s.cfg.priTx)] } := by
  simp [runBoot_succ, bootAct, hb, State.setStalled, State.enableReceive, State.enableTransmit, State.setPer,
    State.logCall, State.emit, State.setBoot]

/-- BOOT's turn while no handler is active makes its actions (R58 a, R230). -/
theorem step_boot {n : Nat} {rest : List Turn} (hw : s.cfg.wellFormed = true) (hact : s.handlerActive = false)
    (ht : s.turns = .boot n :: rest) : step s = .next (runBoot n (s.takeTurn rest n)) := by
  calc step s = bootTurn n (s.takeTurn rest n) := step_of_turns_cons hw ht
    _ = .next (runBoot n (s.takeTurn rest n)) := by simp [bootTurn, hact]

/-- Settles O21: the four actions of K1 and K2, and then those of K3 to K5. -/
theorem constructionSequence : Obligations.ConstructionSequence := by
  unfold Obligations.ConstructionSequence
  intro s rest hw hb hact ht
  rw [step_boot hw hact ht]
  exact congrArg Host.Outcome.next ((runBoot_k1_k2 (s := s.takeTurn rest 7) hb 3).trans (runBoot_k3_k4_k5 rfl 0))

end Sys2Proof.Machine
end

section
/-! The acknowledgement of a later condition (R239): a turn of the active handler, and TXRDY's T5. -/

namespace Sys2Proof.Machine

variable {s : State}

/-- The active handler's turn, with no command in the call frame, makes actions of the handler's own (R58 a). -/
theorem step_handler {n : Nat} {rest : List Turn} (hw : s.cfg.wellFormed = true) (hact : s.handlerActive = true)
    (hcall : s.call.pc = .idle) (ht : s.turns = .handler n :: rest) :
    step s = runCtx s.activeHandler n (s.takeTurn rest n) := by
  calc step s = handlerTurn n (s.takeTurn rest n) := step_of_turns_cons hw ht
    _ = runCtx s.activeHandler n (s.takeTurn rest n) := by simp [handlerTurn, hact, hcall]

/-- T5 acknowledges the transmit-ready condition and ends the handler (R161, R187, R211). -/
theorem runCtx_acknowledge {w : Who} (hpc : (s.ctx w).pc = .t5) (n : Nat) :
    runCtx w (n + 1) s = .next ((s.acknowledgeTransmit (s.agentOf w)).leaveHandler w) := by
  unfold runCtx
  rw [runTo_of_act (t := (s.acknowledgeTransmit (s.agentOf w)).leaveHandler w) (by simp [hpc]) (by simp [act, hpc]),
    runTo_stop (by simp)]

/-- A turn of TXRDY at T5 is its acknowledgement. -/
theorem step_acknowledge {n : Nat} {rest : List Turn} (hw : s.cfg.wellFormed = true) (hpc : s.txi.pc = .t5)
    (hcall : s.call.pc = .idle) (ht : s.turns = .handler (n + 1) :: rest) :
    step s = .next (((s.takeTurn rest (n + 1)).acknowledgeTransmit .txi).leaveHandler .txi) := by
  have hact : s.handlerActive = true := by simp [State.handlerActive, hpc]
  have hhandler : s.activeHandler = .txi := by simp [State.activeHandler, hpc]
  rw [step_handler hw hact hcall ht, hhandler, runCtx_acknowledge (by simpa using hpc), State.agentOf_txi]

/-- Settles O59: TX_DONE raises the condition, and T5 clears whatever is pending. -/
theorem acknowledgeClearsALaterCondition : Obligations.AcknowledgeClearsALaterCondition := by
  unfold Obligations.AcknowledgeClearsALaterCondition
  intro s n rest hw henv hpc hcall hfull ht
  have hraise : step s = .next ((s.takeTurn (.handler (n + 1) :: rest) 0).setPer
      { s.per with txEmpty := true, txIrq := true }) :=
    (step_peripheral hw ht).trans (congrArg Host.Outcome.next (State.perStep_txDone_of_full henv hfull))
  exact ⟨_, _, hraise, rfl, step_acknowledge hw hpc hcall rfl, rfl, rfl, rfl⟩

end Sys2Proof.Machine
end

section
/-! The lost wake-up (R237): a transmit-ready handler comes between two actions of a RESUME in the foreground, which then goes
on to its end. -/

namespace Sys2Proof.Machine

variable {s : State} {w : Who} {m n : Nat} {rest : List Turn}

/-! ### The two turns of the schedule -/

/-- A startable transmit-ready handler's turn is TXRDY (R160, R208). -/
theorem step_interrupt_transmit (hw : s.cfg.wellFormed = true) (hst : s.startable .transmit = true)
    (ht : s.turns = .interrupt .transmit n :: rest) : step s = exec .txrdy (s.takeTurn rest n) := by
  calc step s = interruptTurn .transmit (s.takeTurn rest n) := step_of_turns_cons hw ht
    _ = exec .txrdy (s.takeTurn rest n) := if_pos hst

theorem State.handlerActive_of_startable {src : IrqSource} (h : s.startable src = true) : s.handlerActive = false :=
  State.handlerActive_eq_false_iff.2 (State.startable_iff.1 h).2

/-- The foreground's turn inside an operation makes actions of that operation (R58 a, R231). -/
theorem step_foreground_of_busy (hw : s.cfg.wellFormed = true) (hact : s.handlerActive = false) (hb : s.boot = .done)
    (hpc : s.fg.pc ≠ .idle) (ht : s.turns = .foreground n :: rest) : step s = runCtx .fg n (s.takeTurn rest n) := by
  calc step s = foregroundTurn n (s.takeTurn rest n) := step_of_turns_cons hw ht
    _ = runCtx .fg n (s.takeTurn rest n) := by simp [foregroundTurn, hact, hb, hpc]

/-! ### The end of a RESUME -/

/-- S7 clears the flag and goes back to the caller; a slice goes no further when that is `IDLE` (R133). -/
theorem runCtx_clearFlag (hpc : (s.ctx w).pc = .s7) (hend : m = 0 ∨ (s.ctx w).ret = .idle) :
    runCtx w (m + 1) s = .next ((s.setStalled false).ret w) := by
  unfold runCtx
  rw [runTo_of_act (t := (s.setStalled false).ret w) (by simp [hpc]) (by simp [act, hpc])]
  rcases hend with rfl | hret
  · rfl
  · exact runTo_stop (by simpa using hret) m

theorem step_clearFlag (hw : s.cfg.wellFormed = true) (hact : s.handlerActive = false) (hb : s.boot = .done)
    (hpc : s.fg.pc = .s7) (hend : m = 0 ∨ s.fg.ret = .idle) (ht : s.turns = .foreground (m + 1) :: rest) :
    step s = .next (((s.takeTurn rest (m + 1)).setStalled false).ret .fg) :=
  (step_foreground_of_busy hw hact hb (by simp [hpc]) ht).trans (runCtx_clearFlag hpc hend)

/-- Settles O57: TXRDY sets the flag and acknowledges, and S7 clears the flag. -/
theorem lostWakeUp : Obligations.LostWakeUp := by
  unfold Obligations.LostWakeUp
  intro s m n rest hw hb hpc hend hst hocc ht
  have hact := State.handlerActive_of_startable hst
  obtain ⟨-, hrxi⟩ := State.handlerActive_eq_false_iff.1 hact
  have hidle {t : State} (htxi : t.txi.pc = .idle) (h : t.rxi = s.rxi) : t.handlerActive = false :=
    State.handlerActive_eq_false_iff.2 ⟨htxi, h ▸ hrxi⟩
  have hhandler := (step_interrupt_transmit hw hst ht).trans
    (txrdyStallsOnAnEmptyQueue (s.takeTurn (.foreground (m + 1) :: rest) (n + 3)) (by simpa using hact) (by simp)
      (by simpa using hocc))
  exact ⟨_, _, hhandler, step_clearFlag hw (hidle rfl rfl) hb hpc hend rfl, rfl, rfl, hocc, rfl, hidle rfl rfl,
    by simp [transmitted], fun _ => id⟩

end Sys2Proof.Machine
end

section
/-! The double dequeue (R238): a transmit-ready handler between RESUME's S4 and S5, and then the RESUME, each take one byte
from the outbound FIFO and send the byte that was oldest before either. -/

namespace Sys2Proof.Machine

variable {s t u : State} {v : Byte} {w : Who} {m n : Nat} {rest : List Turn} {tr : List Event}

/-! ### One byte taken and one sent -/

theorem transmitted_append (tr tr' : List Event) : transmitted (tr ++ tr') = transmitted tr ++ transmitted tr' :=
  List.filterMap_append ..

/-- A data write records no marker of the container's (R191, R206). -/
theorem State.emptyGet_mem_writeData {a : Agent} {f : Sel} :
    Marker.emptyGet f ∈ (s.writeData a v).markers ↔ Marker.emptyGet f ∈ s.markers := by
  simp only [State.writeData_eq]
  split
  · simp [State.mem_markers_mark]
  · rfl

/-- The dequeue's second action records EMPTY_GET exactly on an empty FIFO (R111). -/
theorem State.emptyGet_mem_advanceGet {f : Sel} (hu : s.advanceGet f = .next u) :
    Marker.emptyGet f ∈ u.markers ↔ (s.fifo f).cnt = 0 ∨ Marker.emptyGet f ∈ s.markers := by
  rcases State.advanceGet_next hu with ⟨h0, rfl⟩ | ⟨h0, -, rfl⟩
  · simp [h0]
  · simp [h0, State.mem_markers_mark]

/-- Get and the true count moved by one dequeue on TX, and the byte `v` sent: what TXRDY and the end of a RESUME have in
common (R111, R133, R161). -/
structure TakesAndSends (v : Byte) (s t : State) : Prop where
  cfg : t.cfg = s.cfg
  tx : t.tx = { s.tx with get := inc s.cfg.modeTx s.cfg.capTx s.tx.get, cnt := s.tx.cnt - 1 }
  sent : transmitted t.trace = transmitted s.trace ++ [v]
  emptyGet : Marker.emptyGet .tx ∈ t.markers ↔ s.tx.cnt = 0 ∨ Marker.emptyGet .tx ∈ s.markers

/-- In a turn's state the dequeue's second action takes the byte; what follows it leaves TX alone and sends `v`. -/
theorem takesAndSends_of_advanceGet (hu : (s.takeTurn rest n).advanceGet .tx = .next u) (hcfg : t.cfg = u.cfg)
    (htx : t.tx = u.tx) (htr : t.trace = u.trace ++ tr) (hv : transmitted tr = [v])
    (hm : Marker.emptyGet .tx ∈ t.markers ↔ Marker.emptyGet .tx ∈ u.markers) : TakesAndSends v s t := by
  obtain ⟨hucfg, -, -, -, -, -, -, -, hutrace, -⟩ := State.advanceGet_frame hu
  obtain ⟨hutx, -, -⟩ := State.advanceGet_dequeued hu
  have hum : Marker.emptyGet .tx ∈ u.markers ↔ s.tx.cnt = 0 ∨ Marker.emptyGet .tx ∈ s.markers :=
    State.emptyGet_mem_advanceGet (s := s.takeTurn rest n) hu
  have hsent : transmitted t.trace = transmitted s.trace ++ [v] := by
    rw [htr, hutrace, transmitted_append, hv, State.takeTurn_trace]
  exact ⟨hcfg.trans hucfg, htx.trans hutx, hsent, hm.trans hum⟩

theorem TakesAndSends.cap (h : TakesAndSends v s t) : t.cap .tx = s.cap .tx := congrArg Cfg.capTx h.cfg

/-- Get stays in range (R21). -/
theorem TakesAndSends.get_lt_cap (h : TakesAndSends v s t) (hw : s.cfg.wellFormed = true)
    (hget : s.tx.get.toNat < s.cap .tx) : t.tx.get.toNat < t.cap .tx := by
  have hinc : t.tx.get.toNat = (s.tx.get.toNat + 1) % s.cap .tx := by
    rw [h.tx]
    exact State.inc_toNat (f := .tx) hw hget
  rw [hinc, h.cap]
  exact Nat.mod_lt _ (Nat.zero_lt_of_lt hget)

/-- The occupancy falls by one, from 0 to C - 1 (R103, R111). -/
theorem TakesAndSends.occ (h : TakesAndSends v s t) (hw : s.cfg.wellFormed = true) (hget : s.tx.get.toNat < s.cap .tx) :
    t.occ .tx = (s.occ .tx + s.cap .tx - 1) % s.cap .tx := by
  rw [← State.occ_inc_get (f := .tx) hw hget, State.occ, h.cap, State.fifo_tx, h.tx]
  rfl

/-- Two of them from occupancy 1 wrap it to C - 1 (R238). -/
theorem TakesAndSends.occ_twice (h1 : TakesAndSends v s u) (h2 : TakesAndSends v u t) (hw : s.cfg.wellFormed = true)
    (hget : s.tx.get.toNat < s.cap .tx) (hocc : s.occ .tx = 1) : t.occ .tx = s.cap .tx - 1 := by
  have hpos : 0 < s.cap .tx := Nat.zero_lt_of_lt hget
  have hempty : u.occ .tx = 0 := by rw [h1.occ hw hget, hocc, Nat.add_sub_cancel_left, Nat.mod_self]
  rw [h2.occ (h1.cfg ▸ hw) (h1.get_lt_cap hw hget), hempty, h1.cap, Nat.zero_add, Nat.mod_eq_of_lt (by omega)]

/-! ### The two turns -/

/-- RESUME from S5 to its end: the dequeue's second action, the data write of the byte read before, the flag (R133). -/
theorem runCtx_sendRead (hpc : (s.ctx w).pc = .s5) (hend : m = 0 ∨ (s.ctx w).ret = .idle)
    (hu : s.advanceGet .tx = .next u) :
    runCtx w (m + 3) s =
      .next (((((u.goto w .s6).writeData (u.agentOf w) (s.ctx w).v).goto w .s7).setStalled false).ret w) := by
  have hctx := State.advanceGet_ctx hu w
  calc runCtx w (m + 3) s
      = runCtx w (m + 2) (u.goto w .s6) :=
        runTo_of_act (by simp [hpc]) (by simp [act, hpc, actAdvance_of_next hu]) _
    _ = runCtx w (m + 1) (((u.goto w .s6).writeData (u.agentOf w) (s.ctx w).v).goto w .s7) :=
        runTo_of_act (by simp) (by simp [act, hctx]) _
    _ = _ := runCtx_clearFlag (by simp) (by simpa [hctx] using hend)

/-- A transmit-ready handler's turn with data on a written slot, with a byte to take or under the policy `stale`. -/
theorem step_sendQueued (hw : s.cfg.wellFormed = true) (hst : s.startable .transmit = true)
    (hocc : 0 < s.occ .tx) (hcnt : s.tx.cnt = 0 → s.cfg.emptyGet = .stale)
    (hm : memRead s.tx.store s.tx.get.toNat = some v) (ht : s.turns = .interrupt .transmit (n + 6) :: rest) :
    ∃ t, step s = .next t ∧ TakesAndSends v s t ∧ t.handlerActive = false ∧ t.fg = s.fg ∧ t.boot = s.boot ∧
      t.turns = rest := by
  have hact := State.handlerActive_of_startable hst
  obtain ⟨-, hrxi⟩ := State.handlerActive_eq_false_iff.1 hact
  obtain ⟨u, hu⟩ := State.exists_advanceGet (f := .tx) (s := s.takeTurn rest (n + 6)) hcnt
  obtain ⟨-, -, -, hboot, -, -, -, -, -, -, hturns, -⟩ := State.advanceGet_frame hu
  have hctx := State.advanceGet_ctx hu
  exact ⟨u.sentByTxi s.txi v,
    (step_interrupt_transmit hw hst ht).trans
      (exec_txrdy_of_written (by simpa using hact) (by simp) (by simpa using hocc) hm hu),
    takesAndSends_of_advanceGet hu rfl rfl rfl rfl State.emptyGet_mem_writeData,
    State.handlerActive_eq_false_iff.2 ⟨rfl, (congrArg Ctx.pc (hctx .rxi)).trans hrxi⟩, hctx .fg, hboot, hturns⟩

/-- The foreground's turn at S5, with a byte to take or under the policy `stale`. -/
theorem step_sendRead (hw : s.cfg.wellFormed = true) (hact : s.handlerActive = false) (hb : s.boot = .done)
    (hpc : s.fg.pc = .s5) (hend : m = 0 ∨ s.fg.ret = .idle) (hcnt : s.tx.cnt = 0 → s.cfg.emptyGet = .stale)
    (ht : s.turns = .foreground (m + 3) :: rest) :
    ∃ t, step s = .next t ∧ TakesAndSends s.fg.v s t ∧ t.stalled = false ∧ t.fg.pc = s.fg.ret := by
  obtain ⟨u, hu⟩ := State.exists_advanceGet (f := .tx) (s := s.takeTurn rest (m + 3)) hcnt
  have hfg : u.fg = s.fg := State.advanceGet_ctx hu .fg
  refine ⟨_, (step_foreground_of_busy hw hact hb (by simp [hpc]) ht).trans (runCtx_sendRead hpc hend hu), ?_, by simp, ?_⟩
  · exact takesAndSends_of_advanceGet (tr := [.called .fg (.writeDataRegister s.fg.v)]) hu (by simp) (by simp) (by simp) rfl
      (by simp [State.emptyGet_mem_writeData])
  · simp [State.ret, State.goto, hfg]

/-- Settles O58: TXRDY and the end of the RESUME each take a byte and send `v`, the second from what the first left. -/
theorem doubleDequeue : Obligations.DoubleDequeue := by
  unfold Obligations.DoubleDequeue
  intro s v m n rest hw hp hb hpc hend hv hcnt hocc hm hst ht
  obtain ⟨u, hu, h1, hact, hfg, hboot, hturns⟩ := step_sendQueued hw hst hocc (fun h0 => absurd h0 hcnt) hm ht
  have hucnt : u.tx.cnt = s.tx.cnt - 1 := congrArg Fifo.cnt h1.tx
  have hpolicy : u.tx.cnt = 0 → u.cfg.emptyGet = .stale := fun h0 => h1.cfg ▸ hp (by omega)
  obtain ⟨t, ht, h2, hstalled, hret⟩ := step_sendRead (h1.cfg ▸ hw) hact (hboot.trans hb) (hfg ▸ hpc) (hfg ▸ hend)
    hpolicy hturns
  rw [hfg, hv] at h2
  refine ⟨u, t, hu, ht, hstalled, hfg ▸ hret, ?_, ?_, ?_, ?_, fun h => ?_, fun h hmt => ?_, fun hinv hocc1 => ?_⟩
  · simp [h2.tx, h1.tx, h1.cfg]
  · simp [h2.tx, h1.tx]
  · simp [h2.tx, h1.tx, Nat.sub_sub]
  · simp [h2.sent, h1.sent]
  · exact h2.emptyGet.2 (.inl (by omega))
  · exact (h1.emptyGet.1 ((h2.emptyGet.1 hmt).resolve_left (by omega))).resolve_left hcnt
  · obtain ⟨-, ⟨hget, -⟩, -⟩ := hinv
    exact h1.occ_twice h2 hw hget hocc1

end Sys2Proof.Machine
end
